-- ==== Sys2Proof/Word.lean ====
section
/-! DEFINITION. The plain types of the FK2460: bytes, addresses, and the numbers of slots, zones and totes (spec/00_scope.md, Conventions). -/

namespace Sys2Proof

/-- A byte of a message, a lane unit or the configuration image. -/
abbrev Byte := BitVec 8

/-- An Ethernet address, six bytes. -/
abbrev Mac := BitVec 48

/-- Slots are numbered 0–23 (spec/00_scope.md, Names). -/
abbrev SlotId := Fin 24

/-- Zones are numbered 0–5. -/
abbrev ZoneId := Fin 6

/-- Totes are numbered 0–7. -/
abbrev ToteId := Fin 8

end Sys2Proof
end

