-- ==== Sys2Proof/Config.lean ====
section
/-! DEFINITION. What an FK2460 fixes (sizes and constants of the spec), and the free values: what the spec leaves open, with no body (log entry 10). -/

namespace Sys2Proof.Config

/-- Request queue capacity (R4). -/
def requestPlaces : Nat := 8
/-- Completions below which a refusal completion is still queued (R13). -/
def refusalHeadroom : Nat := 64
/-- Notice queue capacity (R193). -/
def noticePlaces : Nat := 64
/-- Completions sent in a row while notices wait (R11). -/
def runLimit : Nat := 8
/-- Outstanding list capacity (R73). -/
def listPlaces : Nat := 8
/-- Largest body admitted to a lane (R70, check 8). -/
def laneBodyMax : Nat := 64
/-- Largest message body (R3). -/
def messageBodyMax : Nat := 1024
/-- Presence and door debounce, in 1 ms ticks (R20, R171). -/
def slowDebounce : Nat := 250
/-- Eject button debounce, in 1 ms ticks (R169). -/
def ejectDebounce : Nat := 50
/-- Bound of a sensor read, in 1 ms ticks (R142). -/
def sensorReadBound : Nat := 50
/-- The bus address of the sensor of zone 0 (R142). -/
def sensorBase : BitVec 7 := 0x48
/-- Bound of a transfer of the loader, in 1 ms ticks (R197). -/
def transferBound : Nat := 50
/-- The serial configuration memory holds at most 16 KiB of image (spec/11, section 11.4). -/
def imageMax : Nat := 16384
/-- Largest value of a 16-bit saturating count. -/
def max16 : Nat := 65535
/-- Largest value of a 32-bit saturating count. -/
def max32 : Nat := 4294967295
/-- The broadcast address (R1). -/
def broadcast : Mac := 0xFFFFFFFFFFFF
/-- The trunk address without its strap byte (R2). -/
def stationBase : Mac := 0x024A46000000
/-- The revision number of the parts this manual describes (R10). -/
def revision : Nat := 1

/-- FREE VALUE (log entry 10): how many bytes of a lane unit had gone out when its send was cut short; applied to the draw counter. R203 gives what follows those bytes, not how many they are. -/
opaque cutLength : Nat → Nat
/-- FREE VALUE (log entry 10): the hard limit field of a ZONE_ALARM notice whose raising rule does not carry a hard limit (R152 CLEARED, R153 TRIPPED). -/
opaque unstatedHardLimit : Nat → BitVec 16
/-- FREE VALUE (log entry 10): the tripped field of a ZONE_ALARM notice whose raising rule does not carry it (R152 RAISED, R153 TRIPPED). -/
opaque unstatedTripped : Nat → Bool
/-- FREE VALUE (log entry 10): the last sample field, a code 0–3, of a ZONE_SENSOR_FAULT notice with outcome RECOVERED, whose raising rule does not carry it (R144). -/
opaque unstatedLastSample : Nat → Fin 4

end Sys2Proof.Config
end

