-- ==== Sys2Proof/Syntax.lean ====
section
/-! DEFINITION. The commands of the FK2460: one constructor per row of spec/opcode_table.json, in the table's order.
A row that is the Management Unit's taking of a request has no operand of its own: the request stands at the head of the request queue (R5, R6). -/

namespace Sys2Proof

/-- How a sensor read that ended before its 50 ms bound ended (R142). -/
inductive SensorAnswer where
  /-- The two bytes of the answer, one signed number in half-degrees. -/
  | value (v : BitVec 16)
  /-- The sensor did not acknowledge its address or the register it was asked for. -/
  | noAnswer
deriving DecidableEq, Repr

/-- A transfer of the loader that was ended as not acknowledged (R197). -/
structure EndedTransfer where
  /-- How many 1 ms ticks the loader had counted since power-on when the transfer began (log entry 11). -/
  began : Nat
  /-- The image bytes acknowledged before the transfer, in order. -/
  acked : List Byte
deriving DecidableEq, Repr

/-- The commands, one per row of spec/opcode_table.json. -/
inductive Instr where
  /-- POWER_ON (R198): the strap pins sampled (R2) and the raw levels of the presence, eject and door lines found (R20, R169, R171); bit s of a set is slot s. -/
  | powerOn (strap : BitVec 6) (presence eject : BitVec 24) (doorOpen : Bool)
  /-- CONFIG_TRANSFER_TIMEOUT (R197): a loader transfer ended as not acknowledged. -/
  | configTransferTimeout (ended : EndedTransfer)
  /-- CONFIG_IMAGE_LOAD_END (R199): the image bytes the memory acknowledged, in order; a list shorter than the image means that the next read was not acknowledged. -/
  | configImageLoadEnd (acked : List Byte)
  /-- TRUNK_FRAME_RECEIVED (R1): is the frame check good, destination, source, type field, data field. -/
  | trunkFrameReceived (checkGood : Bool) (dest source : Mac) (etherType : BitVec 16) (data : List Byte)
  /-- UNKNOWN_REQUEST_CODE (R6): the Management Unit takes a request whose code is not in Table 1-2. -/
  | unknownRequestCode
  /-- READ_PART_ID (R10). -/
  | readPartId
  /-- LOAD_ENTRY (R8). -/
  | loadEntry
  /-- READ_ENTRY (R9). -/
  | readEntry
  /-- READ_SLOT (R43). -/
  | readSlot
  /-- READ_ZONE (R157). -/
  | readZone
  /-- READ_COUNTERS (R196). -/
  | readCounters
  /-- START_SLOT (R23). -/
  | startSlot
  /-- STEP_DONE (R61). -/
  | stepDone
  /-- ABORT_SLOT (R34). -/
  | abortSlot
  /-- SERVICE (R164). -/
  | service
  /-- TOTE_SWAP (R185). -/
  | toteSwap
  /-- TOTE_WITHDRAW (R186). -/
  | toteWithdraw
  /-- RESET_TRAFFIC (R14). -/
  | resetTraffic
  /-- RESET_RACK (R15). -/
  | resetRack
  /-- TRANSMIT_CHOICE (R11). -/
  | transmitChoice
  /-- FRAME_SEND_END (R12). -/
  | frameSendEnd
  /-- LINK_UP (R11). -/
  | linkUp
  /-- LINK_DOWN (R12). -/
  | linkDown
  /-- TIME_BASE_TICK (R47): the 1 ms tick. -/
  | timeBaseTick
  /-- SLOT_SECOND_TICK (R56): the Slot Engine of the slot takes a 1 s tick. -/
  | slotSecondTick (slot : SlotId)
  /-- STEP_TIME_LIMIT_EXPIRY (R62): the 1 s tick of a slot that finds its step at its time limit. -/
  | stepTimeLimitExpiry (slot : SlotId)
  /-- PRESENCE_LINE_CHANGE (R20): the raw presence line of the slot takes a level. -/
  | presenceLineChange (slot : SlotId) (present : Bool)
  /-- PRESENCE_ARRIVAL (R21). -/
  | presenceArrival (slot : SlotId)
  /-- PRESENCE_LOSS (R38). -/
  | presenceLoss (slot : SlotId)
  /-- SPINUP_WINDOW_EXPIRY (R134). -/
  | spinupWindowExpiry (slot : SlotId)
  /-- NO_SHOW_WINDOW_EXPIRY (R166). -/
  | noShowWindowExpiry (slot : SlotId)
  /-- SPINDOWN_WAIT_EXPIRY (R36). -/
  | spindownWaitExpiry (slot : SlotId)
  /-- LANE_COMMAND_SEND_END (R75). -/
  | laneCommandSendEnd (slot : SlotId)
  /-- RESET_LANE_SEND_END (R74). -/
  | resetLaneSendEnd (slot : SlotId)
  /-- LANE_MESSAGE_DROPPED (R77): a unit received on the lane that is to be dropped. -/
  | laneMessageDropped (slot : SlotId) (unit : List Byte)
  /-- LANE_COMPLETION (R78): a COMPLETION unit received on the lane. -/
  | laneCompletion (slot : SlotId) (unit : List Byte)
  /-- LANE_READY (R84): a LANE_READY unit received on the lane; its three bytes are fixed (R203). -/
  | laneReady (slot : SlotId)
  /-- COMMAND_TIMEOUT (R82): the command timer of the entry with the tag expires. -/
  | commandTimeout (slot : SlotId) (tag : Byte)
  /-- LANE_RECOVERY_WINDOW_EXPIRY (R85). -/
  | laneRecoveryWindowExpiry (slot : SlotId)
  /-- CURRENT_FAULT (R138): a 1 ms tick found the current fault line of the slot asserted. -/
  | currentFault (slot : SlotId)
  /-- SILENCE_FIRST_EXPIRY (R162). -/
  | silenceFirstExpiry (slot : SlotId)
  /-- SILENCE_SECOND_EXPIRY (R163). -/
  | silenceSecondExpiry (slot : SlotId)
  /-- EJECT_LINE_CHANGE (R169): the raw eject line of the slot takes a level. -/
  | ejectLineChange (slot : SlotId) (pressed : Bool)
  /-- EJECT_PRESSED (R169). -/
  | ejectPressed (slot : SlotId)
  /-- EJECT_RELEASED (R169). -/
  | ejectReleased (slot : SlotId)
  /-- EJECT_HOLD_EXPIRY (R170). -/
  | ejectHoldExpiry (slot : SlotId)
  /-- DOOR_LINE_CHANGE (R171): the raw door line takes a level. -/
  | doorLineChange (isOpen : Bool)
  /-- DOOR_CHANGED (R172). -/
  | doorChanged
  /-- SENSOR_READ_TIMEOUT (R142). -/
  | sensorReadTimeout
  /-- SENSOR_SAMPLE (R143): the zone read in progress ends with this answer. -/
  | sensorSample (answer : SensorAnswer)
  /-- ALARM_TIMER_EXPIRY (R153). -/
  | alarmTimerExpiry (zone : ZoneId)
deriving DecidableEq, Repr

end Sys2Proof
end

