-- ==== Sys2Proof/Decode.lean ====
section
/-! DEFINITION. Reading and writing bytes: byte order (R201), trunk messages (R3, Table 1-1), lane units (R203), and the host's decodeTableWord. The opcode table gives no row any bits, so no word spells a command (log entry 6). -/

namespace Sys2Proof

/-- A multi-byte field, most significant byte first (R201). -/
def beVal (l : List Byte) : Nat := l.foldl (fun a b => a * 256 + b.toNat) 0

/-- The `n` bytes of a field of value `v`, most significant byte first (R201). -/
def beBytes : Nat → Nat → List Byte
  | 0, _ => []
  | n + 1, v => BitVec.ofNat 8 (v / 256 ^ n) :: beBytes n v

/-- A signed field of two bytes, two's complement (R201). -/
def signedBytes (v : Int) : List Byte := beBytes 2 (BitVec.ofInt 16 v).toNat

/-- The field of `len` bytes at offset `off`. -/
def field (c : List Byte) (off len : Nat) : Nat := beVal ((c.drop off).take len)

/-- The signed two-byte field at offset `off`. -/
def signedField (c : List Byte) (off : Nat) : Int := (BitVec.ofNat 16 (field c off 2)).toInt

/-- Exactly `n` bytes: cut, or filled with zeros. -/
def padTo (n : Nat) (l : List Byte) : List Byte := (l ++ List.replicate n 0).take n

/-- A flag as a byte. -/
def flagByte (b : Bool) : Byte := if b then 1 else 0

/-- The three bytes of a set of 24 slot flags: the flag of slot s is bit (s mod 8) of byte floor(s ÷ 8) (R201). -/
def slotSetBytes (m : BitVec 24) : List Byte :=
  [m.extractLsb' 0 8, m.extractLsb' 8 8, m.extractLsb' 16 8]

/-- The set of slot flags whose first byte stands at offset `off` (R201). -/
def slotSetAt (c : List Byte) (off : Nat) : BitVec 24 :=
  BitVec.ofNat 24 (field c off 1 + 256 * field c (off + 1) 1 + 65536 * field c (off + 2) 1)

/-- A drive's identity: serial of 20 bytes, firmware revision of 8 bytes, capacity in GiB (R106). -/
structure Identity where
  serial : List Byte
  firmware : List Byte
  capacity : Nat
deriving DecidableEq, Repr

/-- The 32 bytes of an identity (section 12.2). -/
def Identity.bytes (d : Identity) : List Byte :=
  padTo 20 d.serial ++ padTo 8 d.firmware ++ beBytes 4 d.capacity

/-- The identity whose 32 bytes are `l`. -/
def Identity.ofBytes (l : List Byte) : Identity :=
  { serial := l.take 20, firmware := (l.drop 20).take 8, capacity := field l 28 4 }

/-- The 32 bytes of an identity that may be absent; absent bytes are sent as 0 (R202). -/
def identityBytes : Option Identity → List Byte
  | some d => d.bytes
  | none => List.replicate 32 0

/-- The status of a drive's answer, 0–4 (R80). -/
inductive DriveStatus where
  | good | corrected | uncorrectable | driveReject | driveError
deriving DecidableEq, Repr

/-- The drive status a status byte stands for; above 4 there is none (R77). -/
def DriveStatus.ofByte (b : Byte) : Option DriveStatus :=
  match b.toNat with
  | 0 => some .good
  | 1 => some .corrected
  | 2 => some .uncorrectable
  | 3 => some .driveReject
  | 4 => some .driveError
  | _ => none

/-- The content of a lane COMPLETION (section 4.4). -/
structure CompletionMsg where
  tag : Byte
  status : DriveStatus
  delta : Nat
  coverage : Nat
  identity : Option Identity
deriving DecidableEq, Repr

/-- What a unit received on a lane is judged to be (R77, R203). -/
inductive LaneMsg where
  | dropped
  | completion (c : CompletionMsg)
  | ready
deriving DecidableEq, Repr

/-- The lane check: the sum modulo 65536 of the bytes before it (R203). -/
def laneSum (l : List Byte) : Nat := (l.foldl (fun a b => a + b.toNat) 0) % 65536

/-- A lane unit: its bytes and its check (R203). -/
def withCheck (l : List Byte) : List Byte := l ++ beBytes 2 (laneSum l)

/-- A unit cut short after `n` of its bytes: the bytes sent, and their sum plus 1 (R203). -/
def cutUnit (unit : List Byte) (n : Nat) : List Byte :=
  unit.take n ++ beBytes 2 ((laneSum (unit.take n) + 1) % 65536)

/-- The content of a COMPLETION after its type byte (R203): its identity flag is 0 or 1, its status 0–4, and its length is that of its flag. -/
def readCompletion (rest : List Byte) : LaneMsg :=
  match rest with
  | tag :: st :: delta :: c1 :: c0 :: flag :: idb =>
    match DriveStatus.ofByte st with
    | none => .dropped
    | some s =>
      if flag = 0 ∧ idb = [] then
        .completion { tag, status := s, delta := delta.toNat, coverage := beVal [c1, c0], identity := none }
      else if flag = 1 ∧ idb.length = 32 then
        .completion { tag, status := s, delta := delta.toNat, coverage := beVal [c1, c0], identity := some (.ofBytes idb) }
      else .dropped
  | _ => .dropped

/-- How the Slot Engine judges a unit received on its lane: the check first, then the type, then the content (R77, R203). -/
def judgeUnit (u : List Byte) : LaneMsg :=
  if u.length < 3 then .dropped
  else if beVal (u.drop (u.length - 2)) ≠ laneSum (u.take (u.length - 2)) then .dropped
  else
    match u.take (u.length - 2) with
    | [] => .dropped
    | t :: rest =>
      if t = 2 then readCompletion rest
      else if t = 4 ∧ rest = [] then .ready
      else .dropped

/-- The unit a carrier sends for a COMPLETION (R203). -/
def completionUnit (tag status : Byte) (delta coverage : Nat) (identity : Option Identity) : List Byte :=
  withCheck ([2, tag, status, BitVec.ofNat 8 delta] ++ beBytes 2 coverage ++
    (match identity with
     | none => [0]
     | some d => 1 :: d.bytes))

/-- The COMMAND unit of an entry (R203). -/
def commandUnit (tag code : Byte) (body : List Byte) : List Byte :=
  withCheck ([1, tag, code, BitVec.ofNat 8 body.length] ++ body)

/-- The RESET_LANE unit (R203). -/
def resetLaneUnit : List Byte := withCheck [3]

/-- The LANE_READY unit (R203). -/
def laneReadyUnit : List Byte := withCheck [4]

/-- What the data field of an accepted frame is parsed to (R3). -/
inductive Parsed where
  | inconsistent
  /-- A SLOT_COMMAND for a slot. -/
  | command (slot : SlotId) (tag code : Byte) (body : List Byte)
  /-- A MGMT_REQUEST. -/
  | request (slot tag code : Byte) (body : List Byte)
deriving DecidableEq, Repr

/-- Message parsing (R3): the header, the body of its length, the bytes after it ignored. -/
def parseMessage (data : List Byte) : Parsed :=
  match data with
  | kind :: slot :: tag :: code :: l1 :: l0 :: rest =>
    let n := beVal [l1, l0]
    if n > Config.messageBodyMax ∨ n > rest.length then .inconsistent
    else if kind = 1 then
      if h : slot.toNat < 24 then .command ⟨slot.toNat, h⟩ tag code (rest.take n) else .inconsistent
    else if kind = 3 then .request slot tag code (rest.take n)
    else .inconsistent
  | _ => .inconsistent

/-- The bytes of a message: the 6-byte header and the body (section 1.2). -/
def messageBytes (kind slot tag code : Byte) (body : List Byte) : List Byte :=
  [kind, slot, tag, code] ++ beBytes 2 body.length ++ body

/-- The host's question: the command a word of the opcode table spells. The table gives no row any bits. -/
def decodeTableWord (_nbits _w : Nat) : Option Instr := none

end Sys2Proof
end

