-- ==== Sys2Proof/Machine/Records.lean ====
section
/-! DEFINITION. The records the FK2460's state is made of, each field under the spec's name for it, with its value after power-on. -/

namespace Sys2Proof.Machine

/-! ### Timers and lines -/

/-- A running timer (R49): the length N it was started with, in units of its resolution, and the ticks counted since its start. It is due once a tick has found N ticks counted, that is, once N + 1 have been counted. A stopped timer is no timer (`Option Timer`). -/
structure Timer where
  length : Nat
  counted : Nat
deriving DecidableEq, Repr

/-- A debounced input line (R20, R169, R171): the raw level, the debounced level, and the timing of a raw level that differs from it. The level true is PRESENT, PRESSED, OPEN. -/
structure Debounce where
  raw : Bool
  value : Bool
  timer : Option Timer
deriving DecidableEq, Repr

/-- The part's time: the pair of the seconds count and the millisecond count (R47). -/
structure Time where
  seconds : BitVec 32
  ms : Nat
deriving DecidableEq, Repr

/-! ### Slots -/

/-- Slot states (Table 2-2). -/
inductive SlotState where
  | empty | seated | powerWait | spinup | ident | running | condemned | draining | spindown | toteWait | unloadReady
deriving DecidableEq, Repr

/-- Reasons (Table 2-4). -/
inductive Reason where
  | none | condemnedUncorrectable | coverage | noShow | powerFault | overtemp | unresponsive
  | serverReject | silent | operator | serverReturn
deriving DecidableEq, Repr

/-- Lamp colours (R40). -/
inductive Colour where
  | off | green | amber | both
deriving DecidableEq, Repr

/-- Lamp blinks (R40). -/
inductive Blink where
  | steady | hz1 | hz2 | hz8
deriving DecidableEq, Repr

/-- A lamp pattern: colour and blink (Table 2-5). -/
structure Lamp where
  colour : Colour
  blink : Blink
deriving DecidableEq, Repr

/-- The sticky conditions (R42). -/
structure Sticky where
  silenceWarned : Bool
  shortfall : Bool
  laneRecovered : Bool
  orphanSeen : Bool
  refusedSeen : Bool
  zoneAlarmSeen : Bool
deriving DecidableEq, Repr

/-- No sticky condition latched. -/
def Sticky.clear : Sticky := ⟨false, false, false, false, false, false⟩

/-- The slot counters, 16 bits each (R90). -/
structure SlotCounters where
  accepted : Nat
  refused : Nat
  orphans : Nat
  laneErrors : Nat
deriving DecidableEq, Repr

/-- The slot counters at 0. -/
def SlotCounters.zero : SlotCounters := ⟨0, 0, 0, 0⟩

/-- The state of an entry of an outstanding list (R73). While ISSUED it holds its issue time and its command timer; the identity probe has no timer (R88). -/
inductive EntryState where
  | queued
  | issued (issuedAt : Time) (timer : Option Timer)
  | done
deriving DecidableEq, Repr

/-- An entry of an outstanding list (R72), with the class values it copied at admission. -/
structure Entry where
  tag : Byte
  code : Byte
  body : List Byte
  cls : Fin 8
  timeout : Nat
  slow : Nat
  coverage : Bool
  scored : Bool
  step : Nat
  state : EntryState
deriving DecidableEq, Repr

/-- Lane states (R73 to R86). -/
inductive LaneState where
  | opened | recovering
deriving DecidableEq, Repr

/-- The lane transmitter (R74): idle, sending a COMMAND for the entry with a tag, or sending RESET_LANE. -/
inductive LaneTx where
  | idle
  | command (tag : Byte) (unit : List Byte)
  | resetLane
deriving DecidableEq, Repr

/-- The last unit that ended on a lane, whole or cut short (R76, R203). -/
inductive LaneEnd where
  | whole (unit : List Byte)
  | cutShort (unit : List Byte)
deriving DecidableEq, Repr

/-- The eject hold state (spec/09, section 9.3). -/
inductive HoldState where
  | idle | timing | spent
deriving DecidableEq, Repr

/-- The accumulator record of a slot (R91). -/
structure Accum where
  v : Nat
  u : Nat
  r : Nat
  c : Nat
  f : Nat
  s : Nat
  hist : Vector Nat 8
  frozen : Bool
deriving DecidableEq, Repr

/-- A cleared accumulator record (R92). -/
def Accum.zero : Accum := ⟨0, 0, 0, 0, 0, 0, Vector.replicate 8 0, false⟩

/-- What one bay holds: the slot record (Table 2-1), the outstanding list and the lane (spec/04), the slot's timers, its input lines, its accumulator record (owned by the Score Unit), and its power enable line, spin-up window and spin-down wait (owned by the Power Arbiter). -/
structure Slot where
  state : SlotState
  recipe : Option (Fin 16)
  stepIndex : Nat
  elapsed : Nat
  dwell : Nat
  stepDone : Bool
  shortfall : Nat
  retests : Nat
  disposition : Option (Fin 9)
  reason : Reason
  density : Option Nat
  identity : Option Identity
  retry : Bool
  stage1 : Bool
  silenceTimer : Option Timer
  tote : Option ToteId
  position : Option Nat
  lane : LaneState
  recoveries : Nat
  lamp : Lamp
  binLamp : Option Lamp
  sticky : Sticky
  counters : SlotCounters
  testSeconds : Nat
  outstanding : List Entry
  laneTx : LaneTx
  laneOut : Option LaneEnd
  noShowTimer : Option Timer
  recoveryTimer : Option Timer
  presence : Debounce
  eject : Debounce
  hold : HoldState
  holdTimer : Option Timer
  power : Bool
  spinupTimer : Option Timer
  spindownTimer : Option Timer
  acc : Accum
  /-- The model's own: the 1 s ticks that the Slot Engine has not yet taken as its event (log entry 4). -/
  ticksDue : Nat
deriving DecidableEq, Repr

/-! ### The Table Store -/

/-- A class entry (R67); timeout in 100 ms units, slow threshold in ms. -/
structure ClassEntry where
  timeout : Nat
  slow : Nat
  coverage : Bool
  scored : Bool
deriving DecidableEq, Repr

/-- A command filter entry (R68). -/
structure FilterEntry where
  valid : Bool
  code : Byte
  cls : Fin 8
deriving DecidableEq, Repr

/-- A recipe entry (R50). -/
structure RecipeEntry where
  first : Nat
  count : Nat
  limit : Fin 8
deriving DecidableEq, Repr

/-- Advance modes (R59). -/
inductive Advance where
  | dwell | server | both
deriving DecidableEq, Repr

/-- A step entry (R51). -/
structure StepEntry where
  cooldown : Bool
  mask : BitVec 8
  setPoint : Int
  tolerance : Nat
  ramp : Nat
  dwell : Nat
  advance : Advance
  limit : Nat
  silence : Nat
  scoring : Bool
deriving DecidableEq, Repr

/-- A limit set entry (R108). -/
structure LimitSet where
  wu : Nat
  wr : Nat
  wc : Nat
  wf : Nat
  ws : Nat
  t1 : Nat
  t2 : Nat
  t3 : Nat
  t4 : Nat
  t5 : Nat
  t6 : Nat
  vmin : Nat
  cap : Nat
  bt : Nat
  p : Nat
deriving DecidableEq, Repr

/-- A bin entry (R174). -/
structure BinEntry where
  tote : ToteId
  colour : Colour
  blink : Blink
  retest : Option (Fin 16)
deriving DecidableEq, Repr

/-- The rack settings entry (Table 11-2). -/
structure RackSettings where
  trunkType : BitVec 16
  enables : BitVec 24
  budget : Nat
  spinupWindow : Nat
  spindownWait : Nat
  recoveryMax : Nat
  recoveryWindow : Nat
  retestMax : Nat
  hardLimit : Nat
  tripTime : Nat
  kp : Nat
  ki : Nat
  imax : Nat
  fanBase : Nat
  fanBand : Nat
  noShowWindow : Nat
  ejectHold : Nat
deriving DecidableEq, Repr

/-- The Table Store (spec/00, Table 1). -/
structure TableStore where
  classes : Vector ClassEntry 8
  filters : Vector FilterEntry 64
  recipes : Vector RecipeEntry 16
  steps : Vector StepEntry 128
  limits : Vector LimitSet 8
  bins : Vector BinEntry 9
  capacities : Vector Nat 8
  levels : Vector Nat 18
  rack : RackSettings
deriving DecidableEq, Repr

/-! ### Zones -/

/-- Zone states (Table 8-1). -/
inductive ZoneState where
  | idle | regulating | held | alarm | sensorFault
deriving DecidableEq, Repr

/-- How the last sample was judged (R143). -/
inductive LastSample where
  | valid | outOfRange | noAnswer
deriving DecidableEq, Repr

/-- A zone's request: the requested set-point, the supplying slot and the ramp in force, present together (R145). -/
structure ZoneRequest where
  setPoint : Int
  slot : SlotId
  ramp : Nat
deriving DecidableEq, Repr

/-- The alarm timer (R152, R153). -/
inductive AlarmTimer where
  | stopped
  | running (t : Timer)
  | expired
deriving DecidableEq, Repr

/-- A zone record (Table 8-1). -/
structure Zone where
  state : ZoneState
  temperature : Option Int
  lastSample : Option LastSample
  invalidRun : Nat
  validRun : Nat
  sensorFault : Bool
  request : Option ZoneRequest
  target : Option Int
  rampAcc : Nat
  integral : Int
  duty : Nat
  /-- The duty the heater drive output holds in the present heater period (R147; log entry 33). -/
  heldDuty : Nat
  fan : Nat
  alarm : AlarmTimer
deriving DecidableEq, Repr

/-! ### Totes -/

/-- Tote states (R177). -/
inductive ToteState where
  | absent | opened | full
deriving DecidableEq, Repr

/-- A manifest entry (R178). Disposition and recipe id are copied from the slot record. -/
structure ManifestEntry where
  position : Nat
  slot : SlotId
  identity : Option Identity
  disposition : Option (Fin 9)
  reason : Reason
  density : Option Nat
  retests : Nat
  recipe : Option (Fin 16)
  testSeconds : Nat
  placed : Bool
deriving DecidableEq, Repr

/-- A tote record (R177); its fill is the number of entries of its manifest. -/
structure Tote where
  state : ToteState
  manifest : List ManifestEntry
  wait : List SlotId
deriving DecidableEq, Repr

/-! ### The trunk port -/

/-- Completion statuses: a drive's, or one the part makes (R70, R80). -/
inductive Status where
  | drive (s : DriveStatus)
  | refusedState | refusedRecovering | refusedZone | refusedClass | refusedTag | refusedFull | refusedSize
  | timeout | aborted | removed | powerLost
deriving DecidableEq, Repr

/-- A SLOT_COMPLETION (R71, R80); `forEntry` tells one made for an outstanding entry from a refusal completion. -/
structure Completion where
  slot : SlotId
  tag : Byte
  status : Status
  delta : Nat
  coverage : Nat
  identity : Option Identity
  latency : Nat
  step : Nat
  cls : Fin 8
  forEntry : Bool
deriving DecidableEq, Repr

/-- A management request (R4). -/
structure Request where
  source : Mac
  slot : Byte
  tag : Byte
  code : Byte
  body : List Byte
deriving DecidableEq, Repr

/-- Response statuses (Table 1-3). -/
inductive RespStatus where
  | ok | badRequest | badIndex | badValue | duplicate | inUse | wrongState | toteBusy | configMissing | notReady
deriving DecidableEq, Repr

/-- A MGMT_RESPONSE (R7). -/
structure Response where
  slot : Byte
  tag : Byte
  status : RespStatus
  clamped : Bool
  content : List Byte
deriving DecidableEq, Repr

/-- How a step ended (R63). -/
inductive Ending where
  | dwellReached | serverDone | bothMet | forced | condemned
deriving DecidableEq, Repr

/-- Outcomes of a LANE_RECOVERY notice (R82 to R85). -/
inductive RecoveryOutcome where
  | started | recovered | failed | exhausted
deriving DecidableEq, Repr

/-- Outcomes of a ZONE_ALARM notice (R152, R153). -/
inductive AlarmOutcome where
  | raised | cleared | tripped
deriving DecidableEq, Repr

/-- How the configuration image was judged (R197, R199). -/
inductive LoadOutcome where
  | applied | checkFailed | absent
deriving DecidableEq, Repr

/-- What a notice reports: its kind, its subject and the details its raising rule gives (Table 11-1). -/
inductive NoticeBody where
  | slotSeated (slot : SlotId)
  | driveIdentified (slot : SlotId) (identity : Identity)
  | stepEnded (slot : SlotId) (recipe : Option (Fin 16)) (step elapsed dwell : Nat) (ending : Ending)
  | stepForced (slot : SlotId) (recipe : Option (Fin 16)) (step : Nat) (dwellShort serverLate : Bool) (elapsed dwell shortfall : Nat)
  | silenceWarning (slot : SlotId) (recipe : Option (Fin 16)) (step interval : Nat) (ended : Bool)
  | slotCondemned (slot : SlotId) (u : Nat)
  | slotGraded (slot : SlotId) (recipe : Option (Fin 16)) (retests : Nat) (disposition : Option (Fin 9)) (reason : Reason) (density : Option Nat)
  | unloadReady (slot : SlotId) (tote : ToteId) (position : Nat) (disposition : Option (Fin 9)) (reason : Reason)
  | toteFull (tote : ToteId) (fill waiting : Nat)
  | strayRemoval (slot : SlotId) (tote : Option ToteId) (disposition : Option (Fin 9))
  | drivePulled (slot : SlotId) (left : SlotState) (disposition : Option (Fin 9)) (reason : Reason) (serial : Option (List Byte))
  | laneRecovery (slot : SlotId) (outcome : RecoveryOutcome) (tag : Byte) (recoveries : Nat)
  | zoneAlarm (zone : ZoneId) (outcome : AlarmOutcome) (temperature : Option Int) (hardLimit : BitVec 16) (tripped : Bool)
  | zoneSensorFault (zone : ZoneId) (recovered : Bool) (last : Option LastSample) (temperature : Option Int)
  | doorChanged (isOpen : Bool)
  | configLoaded (outcome : LoadOutcome) (applied skipped : Nat)
  | noticesLost (count : Nat) (highest : Option Nat)
  | slotState (slot : SlotId) (left entered : SlotState)
deriving DecidableEq, Repr

/-- A queued notice (spec/11, section 11.1): its body, the level and time stamp it was made with, and whether its frame is being sent (R193). -/
structure Notice where
  body : NoticeBody
  level : Nat
  stamp : BitVec 32
  sending : Bool
deriving DecidableEq, Repr

/-- An upstream frame (R2, section 12.1). -/
structure Frame where
  dest : Mac
  source : Mac
  etherType : BitVec 16
  message : List Byte
deriving DecidableEq, Repr

/-- The transmitter's three sources (section 1.5). -/
inductive TxSource where
  | response | completion | notice
deriving DecidableEq, Repr

/-- The upstream transmitter: idle, or sending a frame for the item of a source (R11, R12). -/
inductive TrunkTx where
  | idle
  | sending (source : TxSource) (frame : Frame)
deriving DecidableEq, Repr

/-- How the last upstream frame ended (R12): whole, or cut short with an invalid frame check. -/
inductive FrameEnd where
  | whole (frame : Frame)
  | cutShort (frame : Frame)
deriving DecidableEq, Repr

/-- The Trunk Port (spec/01; spec/11 sections 11.2 and 11.3). -/
structure TrunkPort where
  station : Mac
  server : Mac
  requests : List Request
  response : Option Response
  completions : List Completion
  notices : List Notice
  linkUp : Bool
  runCount : Nat
  tx : TrunkTx
  lastFrame : Option FrameEnd
  badFrames : Nat
  badMessages : Nat
  requestsDropped : Nat
  refusalsUnsent : Nat
  noticesLostTotal : Nat
  entriesSkipped : Nat
  lostCount : Nat
  lostHighest : Option Nat
deriving DecidableEq, Repr

/-! ### The Configuration Loader -/

/-- Part phases (R198). -/
inductive Phase where
  | loading | ready
deriving DecidableEq, Repr

/-- The Configuration Loader: the part phase, the strap value, the loading outcome with its counts, a transfer that was ended as not acknowledged with the image bytes acknowledged before it (R197, R199), and the 1 ms ticks counted in LOADING, against which the 50 ms of each transfer are judged (R197, log entry 11). -/
structure Loader where
  phase : Phase
  strap : BitVec 6
  outcome : Option LoadOutcome
  applied : Nat
  skipped : Nat
  failedRead : Option (List Byte)
  counted : Nat
deriving DecidableEq, Repr

/-- The registers that a read of the bus master asks a sensor for (R142): the temperature register alone. The spec does not give its number on the bus. -/
inductive SensorRegister where
  | temperature
deriving DecidableEq, Repr

/-- The sensor read in progress on the two-wire bus (R142): the zone it is made for, the bus address and the register it puts on the bus, and its timing. -/
structure BusRead where
  zone : ZoneId
  address : BitVec 7
  register : SensorRegister
  timer : Timer
deriving DecidableEq, Repr

end Sys2Proof.Machine
end

