-- ==== Sys2Proof/Machine/State.lean ====
section
/-! DEFINITION. The state of the FK2460 as plain data, and its value after power-on. -/

namespace Sys2Proof.Machine

/-- Everything the spec gives the part (INVENTORY.md, State), and the model's own two numbers `order` and `fresh`. -/
structure Part where
  loader : Loader
  busRead : Option BusRead
  trunk : TrunkPort
  serving : Option Request
  tables : TableStore
  slots : Vector Slot 24
  spinQueue : List SlotId
  spinCount : Nat
  zones : Vector Zone 6
  totes : Vector Tote 8
  seconds : BitVec 32
  ms : Nat
  door : Debounce
  /-- The model's own: its digits choose, one after another, the order among slots where the spec gives none (log entry 9). Free: no statement rests on its value. -/
  order : Nat
  /-- The model's own: how many free values have been drawn (log entry 10). Free: no statement rests on its value. -/
  fresh : Nat
deriving DecidableEq, Repr

/-- The machine: the part, and the commands that are waiting, first in, first out. -/
structure State where
  pending : List Instr
  part : Part
deriving DecidableEq, Repr

/-- No command of the FK2460 stops it: the spec describes an effect for every event of its opcode table, and calls none undefined. So there is no fault. -/
inductive Fault where
deriving DecidableEq, Repr

/-- Why a command has no meaning here. -/
inductive Refusal where
  /-- Raised by an arm of exec for a command that has no meaning yet; no arm does. Safe: nothing is claimed of it. -/
  | notModelled (mnemonic : String)
deriving DecidableEq, Repr

/-! ### The power-up values of the records -/

/-- A line at power-on (R20, R169, R171): the debounced level is given; if the raw level differs, the debounce starts at once. -/
def Debounce.powerUp (value raw : Bool) (window : Nat) : Debounce :=
  { raw, value, timer := if raw = value then none else some ⟨window, 0⟩ }

/-- A slot at power-on (R44, R173), with the raw levels of its presence and eject lines. -/
def Slot.powerUp (present pressed : Bool) : Slot where
  state := .empty
  recipe := none
  stepIndex := 0
  elapsed := 0
  dwell := 0
  stepDone := false
  shortfall := 0
  retests := 0
  disposition := none
  reason := .none
  density := none
  identity := none
  retry := false
  stage1 := false
  silenceTimer := none
  tote := none
  position := none
  lane := .opened
  recoveries := 0
  lamp := ⟨.off, .steady⟩
  binLamp := none
  sticky := .clear
  counters := .zero
  testSeconds := 0
  outstanding := []
  laneTx := .idle
  laneOut := none
  noShowTimer := none
  recoveryTimer := none
  presence := .powerUp false present Config.slowDebounce
  eject := .powerUp false pressed Config.ejectDebounce
  hold := .idle
  holdTimer := none
  power := false
  spinupTimer := none
  spindownTimer := none
  acc := .zero
  ticksDue := 0

/-- A step entry at power-on (R51). -/
def StepEntry.powerUp : StepEntry where
  cooldown := false
  mask := 0
  setPoint := 0
  tolerance := 0
  ramp := 1
  dwell := 0
  advance := .dwell
  limit := 0
  silence := 0
  scoring := false

/-- A recipe entry at power-on (R50): the invalid recipe. -/
def RecipeEntry.powerUp : RecipeEntry := ⟨0, 0, 0⟩

/-- A limit set at power-on (R108). -/
def LimitSet.powerUp : LimitSet where
  wu := 0
  wr := 0
  wc := 0
  wf := 0
  ws := 0
  t1 := 65535
  t2 := 65535
  t3 := 65535
  t4 := 65535
  t5 := 65535
  t6 := 65535
  vmin := 0
  cap := 65535
  bt := 7
  p := 1000

/-- The bin table at power-on (R174). -/
def binsPowerUp : Vector BinEntry 9 :=
  #v[⟨0, .green, .steady, none⟩, ⟨1, .green, .steady, none⟩, ⟨2, .green, .steady, none⟩,
     ⟨3, .green, .steady, none⟩, ⟨4, .green, .steady, none⟩, ⟨5, .green, .steady, none⟩,
     ⟨6, .green, .steady, none⟩, ⟨7, .amber, .steady, none⟩, ⟨7, .both, .steady, none⟩]

/-- The default notice levels in the order of the kind codes (Table 11-1, R192). -/
def levelsPowerUp : Vector Nat 18 :=
  #v[2, 3, 2, 4, 6, 5, 4, 5, 6, 6, 5, 4, 7, 7, 4, 3, 7, 1]

/-- The rack settings at power-on (Table 11-2, Table 8-4, R200). -/
def RackSettings.powerUp : RackSettings where
  trunkType := 0x88B5
  enables := 0xFFFFFF
  budget := 4
  spinupWindow := 8
  spindownWait := 20
  recoveryMax := 3
  recoveryWindow := 10
  retestMax := 1
  hardLimit := 150
  tripTime := 120
  kp := 12
  ki := 20
  imax := 2048
  fanBase := 40
  fanBand := 6
  noShowWindow := 30
  ejectHold := 3

/-- The Table Store at power-on (R50, R51, R67, R68, R108, R174, R175, R192, R200). -/
def TableStore.powerUp : TableStore where
  classes := Vector.replicate 8 ⟨100, 50, false, false⟩
  filters := Vector.replicate 64 ⟨false, 0, 0⟩
  recipes := Vector.replicate 16 .powerUp
  steps := Vector.replicate 128 .powerUp
  limits := Vector.replicate 8 .powerUp
  bins := binsPowerUp
  capacities := Vector.replicate 8 20
  levels := levelsPowerUp
  rack := .powerUp

/-- A zone record at power-on (Table 8-1, R158): HELD, because the debounced door is OPEN, and the fan at the fan base in force. -/
def Zone.powerUp : Zone where
  state := .held
  temperature := none
  lastSample := none
  invalidRun := 0
  validRun := 0
  sensorFault := false
  request := none
  target := none
  rampAcc := 0
  integral := 0
  duty := 0
  heldDuty := 0
  fan := RackSettings.powerUp.fanBase
  alarm := .stopped

/-- A tote record at power-on (R177, R190). -/
def Tote.powerUp : Tote := ⟨.absent, [], []⟩

/-- The Trunk Port at power-on (R2, R4, R5, R11, R13, R16, R195, R196), with the strap value. -/
def TrunkPort.powerUp (strap : BitVec 6) : TrunkPort where
  station := Config.stationBase ||| strap.setWidth 48
  server := Config.broadcast
  requests := []
  response := none
  completions := []
  notices := []
  linkUp := false
  runCount := 0
  tx := .idle
  lastFrame := none
  badFrames := 0
  badMessages := 0
  requestsDropped := 0
  refusalsUnsent := 0
  noticesLostTotal := 0
  entriesSkipped := 0
  lostCount := 0
  lostHighest := none

/-- The Configuration Loader at power-on (R198). -/
def Loader.powerUp (strap : BitVec 6) : Loader := ⟨.loading, strap, none, 0, 0, none, 0⟩

/-- The part at power-on: the straps and the raw levels of the lines are what power-on finds. The model's own two numbers are arguments, since power-on is no event of theirs. -/
def Part.powerUp (strap : BitVec 6) (presence eject : BitVec 24) (doorOpen : Bool) (order fresh : Nat) : Part where
  loader := .powerUp strap
  busRead := none
  trunk := .powerUp strap
  serving := none
  tables := .powerUp
  slots := ⟨⟨(List.finRange 24).map fun i => Slot.powerUp presence[i] eject[i]⟩, by simp⟩
  spinQueue := []
  spinCount := 0
  zones := Vector.replicate 6 .powerUp
  totes := Vector.replicate 8 .powerUp
  seconds := 0
  ms := 0
  door := .powerUp true doorOpen Config.slowDebounce
  order
  fresh

/-- The machine right after power-on, with no strap pin set and every raw line at its debounced level (log entry 7), no free choice made yet (log entries 9 and 10), and no command waiting. -/
def State.reset : State := ⟨[], Part.powerUp 0 0 0 true 0 0⟩

end Sys2Proof.Machine
end

