-- ==== Sys2Proof/Machine/Ops.lean ====
section
/-! DEFINITION. The named operations over the records of State: reading and changing one slot, zone or tote, saturating counts (R16, R90, R103), timers (R49), debounced lines (R20, R169, R171), and the free order among slots (log entry 9). -/

namespace Sys2Proof.Machine

/-! ### One record of many -/

/-- A function applied to every place of a vector. -/
def mapV {α β : Type} {n : Nat} (f : α → β) (v : Vector α n) : Vector β n :=
  ⟨⟨v.toList.map f⟩, by simp⟩

/-- The record of slot `i`. -/
def Part.slot (p : Part) (i : SlotId) : Slot := p.slots[i]

/-- Slot `i` changed by `f`; nothing else. -/
def Part.modSlot (i : SlotId) (f : Slot → Slot) (p : Part) : Part :=
  { p with slots := p.slots.set i (f (p.slot i)) }

/-- Every slot changed by `f`. -/
def Part.modAllSlots (f : Slot → Slot) (p : Part) : Part :=
  { p with slots := mapV f p.slots }

/-- The record of zone `z`. -/
def Part.zone (p : Part) (z : ZoneId) : Zone := p.zones[z]

/-- Zone `z` changed by `f`; nothing else. -/
def Part.modZone (z : ZoneId) (f : Zone → Zone) (p : Part) : Part :=
  { p with zones := p.zones.set z (f (p.zone z)) }

/-- The record of tote `t`. -/
def Part.tote (p : Part) (t : ToteId) : Tote := p.totes[t]

/-- Tote `t` changed by `f`; nothing else. -/
def Part.modTote (t : ToteId) (f : Tote → Tote) (p : Part) : Part :=
  { p with totes := p.totes.set t (f (p.tote t)) }

/-- The Trunk Port changed by `f`; nothing else. -/
def Part.modTrunk (f : TrunkPort → TrunkPort) (p : Part) : Part :=
  { p with trunk := f p.trunk }

/-- The Table Store changed by `f`; nothing else. -/
def Part.modTables (f : TableStore → TableStore) (p : Part) : Part :=
  { p with tables := f p.tables }

/-- A command whose effect is `f` on the part: it ends in a next state, and the queue is as it was. -/
def State.onPart (s : State) (f : Part → Part) : Host.Outcome State Fault Refusal :=
  .next { s with part := f s.part }

/-- The part does `f` if the condition holds, and nothing otherwise (log entry 2). -/
def Part.when (c : Bool) (f : Part → Part) (p : Part) : Part := if c then f p else p

/-! ### Slots, zones and totes by number -/

/-- Slot s belongs to zone floor(s ÷ 4) (spec/00_scope.md, Names). -/
def zoneOf (i : SlotId) : ZoneId := ⟨i.val / 4, by omega⟩

/-- The four slots 4z to 4z + 3 of zone z, in rising order (R141). -/
def slotsOf (z : ZoneId) : List SlotId :=
  [⟨4 * z.val, by omega⟩, ⟨4 * z.val + 1, by omega⟩, ⟨4 * z.val + 2, by omega⟩, ⟨4 * z.val + 3, by omega⟩]

/-- All slots, in rising order. -/
def allSlots : List SlotId := List.finRange 24

/-- The zones, in rising order. -/
def allZones : List ZoneId := List.finRange 6

/-- `f` done for each number of a list, in its order. -/
def Part.each {α : Type} (l : List α) (f : α → Part → Part) (p : Part) : Part :=
  l.foldl (fun q a => f a q) p

/-- The set of 24 flags whose set flags are those of the slots that satisfy `q`. -/
def slotSet (q : SlotId → Bool) : BitVec 24 :=
  BitVec.ofNat 24 (allSlots.foldl (fun a i => if q i then a + 2 ^ i.val else a) 0)

/-! ### Counts -/

/-- A saturating addition: the sum, held at `top`. -/
def satAdd (top a b : Nat) : Nat := min top (a + b)

/-- A 16-bit saturating count increased by 1. -/
def inc16 (a : Nat) : Nat := satAdd Config.max16 a 1

/-- A 32-bit saturating count increased by 1. -/
def inc32 (a : Nat) : Nat := satAdd Config.max32 a 1

/-- A value held within a range of naturals. -/
def clampN (lo hi a : Nat) : Nat := max lo (min hi a)

/-- A value held within a range of integers. -/
def clampZ (lo hi a : Int) : Int := max lo (min hi a)

/-! ### Timers (R49) -/

/-- A timer started with a length. -/
def Timer.start (n : Nat) : Timer := ⟨n, 0⟩

/-- One tick of the timer's resolution. Once the timer is due, its count has nothing more to tell. -/
def Timer.tick (t : Timer) : Timer := { t with counted := min (t.length + 1) (t.counted + 1) }

/-- Has the tick on which the timer expires been taken (R49: the (N + 1)th after the start)? -/
def Timer.due (t : Timer) : Bool := t.length < t.counted

/-- One tick of a timer that may be stopped. -/
def tickTimer (o : Option Timer) : Option Timer := o.map Timer.tick

/-- Is a timer running and due? -/
def timerDue : Option Timer → Bool
  | none => false
  | some t => t.due

/-- The whole units remaining of a timer as snapshots report them (log entry 13); 0 when stopped. -/
def unitsLeft : Option Timer → Nat
  | none => 0
  | some t => t.length - t.counted

/-! ### Debounced lines (R20, R169, R171) -/

/-- The raw line takes a level: timing starts when it leaves the debounced value, and ends without effect when it returns to it. -/
def Debounce.line (window : Nat) (level : Bool) (d : Debounce) : Debounce :=
  if level = d.raw then d
  else { d with raw := level, timer := if level = d.value then none else some (.start window) }

/-- A 1 ms tick of the debounce. -/
def Debounce.tick (d : Debounce) : Debounce := { d with timer := tickTimer d.timer }

/-- Has the raw line shown `v`, opposite to the debounced value, for the whole window? -/
def Debounce.dueTo (v : Bool) (d : Debounce) : Bool := timerDue d.timer && d.raw == v && d.value != v

/-- The debounced value becomes the raw level. -/
def Debounce.settle (d : Debounce) : Debounce := { d with value := d.raw, timer := none }

/-! ### The free order among slots (log entry 9) -/

/-- The list in the order that the digits of `t` choose, and the digits that remain. Every order of the list is chosen by some digits; the digits 0 keep the list's own order. -/
def shuffle {α : Type} : Nat → List α → Nat → List α × Nat
  | 0, l, t => (l, t)
  | _ + 1, [], t => ([], t)
  | k + 1, a :: l, t =>
    let j := t % (l.length + 1)
    let r := shuffle k ((a :: l).eraseIdx j) (t / (l.length + 1))
    (((a :: l).getD j a) :: r.1, r.2)

/-- `f` done for each slot of a list, in an order the spec leaves open. -/
def Part.eachFree (l : List SlotId) (f : SlotId → Part → Part) (p : Part) : Part :=
  let r := shuffle l.length l p.order
  ({ p with order := r.2 }).each r.1 f

end Sys2Proof.Machine
end

