-- ==== Sys2Proof/Machine/Formats.lean ====
section
/-! DEFINITION. Codes and byte layouts of what the part sends upstream: completions, responses and notices (chapter 12, R7, R80, R191, R202). An absent field is sent as 0 (log entry 18). -/

namespace Sys2Proof.Machine

/-- A number as one byte. -/
def byte (n : Nat) : Byte := BitVec.ofNat 8 n

/-! ### Codes -/

/-- Table 2-2. -/
def SlotState.code : SlotState → Nat
  | .empty => 0
  | .seated => 1
  | .powerWait => 2
  | .spinup => 3
  | .ident => 4
  | .running => 5
  | .condemned => 6
  | .draining => 7
  | .spindown => 8
  | .toteWait => 9
  | .unloadReady => 10

/-- Table 2-4. -/
def Reason.code : Reason → Nat
  | .none => 0
  | .condemnedUncorrectable => 1
  | .coverage => 2
  | .noShow => 3
  | .powerFault => 4
  | .overtemp => 5
  | .unresponsive => 6
  | .serverReject => 7
  | .silent => 8
  | .operator => 9
  | .serverReturn => 10

/-- The colour codes of R174. -/
def Colour.code : Colour → Nat
  | .off => 0
  | .green => 1
  | .amber => 2
  | .both => 3

/-- The blink codes of R174. -/
def Blink.code : Blink → Nat
  | .steady => 0
  | .hz1 => 1
  | .hz2 => 2
  | .hz8 => 3

/-- Table 8-1. -/
def ZoneState.code : ZoneState → Nat
  | .idle => 0
  | .regulating => 1
  | .held => 2
  | .alarm => 3
  | .sensorFault => 4

/-- The tote states of R177. -/
def ToteState.code : ToteState → Nat
  | .absent => 0
  | .opened => 1
  | .full => 2

/-- The advance codes of R51. -/
def Advance.code : Advance → Nat
  | .dwell => 0
  | .server => 1
  | .both => 2

/-- Section 12.3, the last sample. -/
def lastSampleCode : Option LastSample → Nat
  | none => 0
  | some .valid => 1
  | some .outOfRange => 2
  | some .noAnswer => 3

/-- Section 12.3, the alarm timer. -/
def AlarmTimer.code : AlarmTimer → Nat
  | .stopped => 0
  | .running _ => 1
  | .expired => 2

/-- Table 12-3, the state of an entry. -/
def EntryState.code : EntryState → Nat
  | .queued => 0
  | .issued _ _ => 1
  | .done => 2

/-- Table 1-3. -/
def RespStatus.code : RespStatus → Nat
  | .ok => 0
  | .badRequest => 1
  | .badIndex => 2
  | .badValue => 3
  | .duplicate => 4
  | .inUse => 5
  | .wrongState => 6
  | .toteBusy => 7
  | .configMissing => 8
  | .notReady => 9

/-- Completion statuses (R70, R80). -/
def Status.code : Status → Nat
  | .drive .good => 0
  | .drive .corrected => 1
  | .drive .uncorrectable => 2
  | .drive .driveReject => 3
  | .drive .driveError => 4
  | .refusedState => 0x80
  | .refusedRecovering => 0x81
  | .refusedZone => 0x82
  | .refusedClass => 0x83
  | .refusedTag => 0x84
  | .refusedFull => 0x85
  | .refusedSize => 0x86
  | .timeout => 0x90
  | .aborted => 0x91
  | .removed => 0x92
  | .powerLost => 0x93

/-- How a step ended (section 12.2). -/
def Ending.code : Ending → Nat
  | .dwellReached => 0
  | .serverDone => 1
  | .bothMet => 2
  | .forced => 3
  | .condemned => 4

/-- Outcomes of LANE_RECOVERY (section 12.2). -/
def RecoveryOutcome.code : RecoveryOutcome → Nat
  | .started => 0
  | .recovered => 1
  | .failed => 2
  | .exhausted => 3

/-- Outcomes of ZONE_ALARM (section 12.2). -/
def AlarmOutcome.code : AlarmOutcome → Nat
  | .raised => 0
  | .cleared => 1
  | .tripped => 2

/-- Loading outcomes; absent is 0 (Table 12-2, section 12.2). -/
def loadOutcomeCode : Option LoadOutcome → Nat
  | none => 0
  | some .applied => 1
  | some .checkFailed => 2
  | some .absent => 3

/-- The part phases (Table 12-2). -/
def Phase.code : Phase → Nat
  | .loading => 0
  | .ready => 1

/-! ### Notices -/

/-- What a notice is about (section 11.1). -/
inductive Subject where
  | part
  | slot (i : SlotId)
  | zone (z : ZoneId)
  | tote (t : ToteId)
deriving DecidableEq, Repr

/-- The index of a notice's kind in the notice level table; its code is one more (Table 11-1, R192). -/
def NoticeBody.index : NoticeBody → Fin 18
  | .slotSeated _ => 0
  | .driveIdentified _ _ => 1
  | .stepEnded _ _ _ _ _ _ => 2
  | .stepForced _ _ _ _ _ _ _ _ => 3
  | .silenceWarning _ _ _ _ _ => 4
  | .slotCondemned _ _ => 5
  | .slotGraded _ _ _ _ _ _ => 6
  | .unloadReady _ _ _ _ _ => 7
  | .toteFull _ _ _ => 8
  | .strayRemoval _ _ _ => 9
  | .drivePulled _ _ _ _ _ => 10
  | .laneRecovery _ _ _ _ => 11
  | .zoneAlarm _ _ _ _ _ => 12
  | .zoneSensorFault _ _ _ _ => 13
  | .doorChanged _ => 14
  | .configLoaded _ _ _ => 15
  | .noticesLost _ _ => 16
  | .slotState _ _ _ => 17

/-- The subject of a notice (Table 11-1). -/
def NoticeBody.subject : NoticeBody → Subject
  | .slotSeated i => .slot i
  | .driveIdentified i _ => .slot i
  | .stepEnded i _ _ _ _ _ => .slot i
  | .stepForced i _ _ _ _ _ _ _ => .slot i
  | .silenceWarning i _ _ _ _ => .slot i
  | .slotCondemned i _ => .slot i
  | .slotGraded i _ _ _ _ _ => .slot i
  | .unloadReady i _ _ _ _ => .slot i
  | .toteFull t _ _ => .tote t
  | .strayRemoval i _ _ => .slot i
  | .drivePulled i _ _ _ _ => .slot i
  | .laneRecovery i _ _ _ => .slot i
  | .zoneAlarm z _ _ _ _ => .zone z
  | .zoneSensorFault z _ _ _ => .zone z
  | .doorChanged _ => .part
  | .configLoaded _ _ _ => .part
  | .noticesLost _ _ => .part
  | .slotState i _ _ => .slot i

/-- The subject's kind and number bytes (section 12.2). -/
def Subject.bytes : Subject → List Byte
  | .part => [0, 0]
  | .slot i => [1, byte i.val]
  | .zone z => [2, byte z.val]
  | .tote t => [3, byte t.val]

/-- The slot field of a NOTICE's header (Table 1-1). -/
def Subject.slotField : Subject → Byte
  | .slot i => byte i.val
  | .part => 255
  | .zone _ => 255
  | .tote _ => 255

/-- A number below some bound as one byte; absent is 0. -/
def finByte {n : Nat} : Option (Fin n) → Byte
  | none => 0
  | some a => byte a.val

/-- A presence flag as a byte. -/
def someByte {α : Type} (o : Option α) : Byte := flagByte o.isSome

/-- A signed field that may be absent. -/
def optSigned : Option Int → List Byte
  | none => [0, 0]
  | some v => signedBytes v

/-- The details of a notice (section 12.2). -/
def NoticeBody.details : NoticeBody → List Byte
  | .slotSeated _ => []
  | .driveIdentified _ d => d.bytes
  | .stepEnded _ r k e d ending => [finByte r, byte k] ++ beBytes 2 e ++ beBytes 2 d ++ [byte ending.code]
  | .stepForced _ r k short late e d sf =>
    [finByte r, byte k, byte (short.toNat + 2 * late.toNat)] ++ beBytes 2 e ++ beBytes 2 d ++ [byte sf]
  | .silenceWarning _ r k n ended => [finByte r, byte k] ++ beBytes 2 n ++ [flagByte ended]
  | .slotCondemned _ u => beBytes 2 u
  | .slotGraded _ r n d reason dd =>
    [finByte r, byte n, finByte d, byte reason.code, someByte dd] ++ beBytes 2 (dd.getD 0)
  | .unloadReady _ t pos d reason => [byte t.val, byte pos, finByte d, byte reason.code]
  | .toteFull _ f w => [byte f, byte w]
  | .strayRemoval _ t d => [finByte t, finByte d]
  | .drivePulled _ left d reason ser =>
    [byte left.code, someByte d, finByte d, byte reason.code, someByte ser] ++ padTo 20 (ser.getD [])
  | .laneRecovery _ o tag n =>
    [byte o.code, (match o with | .started => tag | .exhausted => tag | .recovered => 0 | .failed => 0), byte n]
  | .zoneAlarm _ o t h tr => [byte o.code] ++ optSigned t ++ beBytes 2 h.toNat ++ [flagByte tr]
  | .zoneSensorFault _ r l t => [flagByte r, byte (lastSampleCode l), someByte t] ++ optSigned t
  | .doorChanged o => [flagByte o]
  | .configLoaded o a k => [byte (loadOutcomeCode (some o))] ++ beBytes 2 a ++ beBytes 2 k
  | .noticesLost c h => beBytes 2 c ++ [byte (h.getD 0)]
  | .slotState _ a b => [byte a.code, byte b.code]

/-- A NOTICE message (R191, section 12.2). -/
def Notice.message (n : Notice) : List Byte :=
  messageBytes 5 n.body.subject.slotField 0 (byte (n.body.index.val + 1))
    ([byte n.level] ++ beBytes 4 n.stamp.toNat ++ n.body.subject.bytes ++ n.body.details)

/-! ### Completions and responses -/

/-- A SLOT_COMPLETION message (R71, R80, section 12.2). -/
def Completion.message (c : Completion) : List Byte :=
  messageBytes 2 (byte c.slot.val) c.tag (byte c.status.code)
    ([byte c.delta] ++ beBytes 2 c.coverage ++
      (match c.identity with
       | none => [0]
       | some d => 1 :: d.bytes) ++
      beBytes 4 c.latency ++ [byte c.step, byte c.cls.val])

/-- A MGMT_RESPONSE message (R7, R202): the content follows only when the status is OK. -/
def Response.message (r : Response) : List Byte :=
  messageBytes 4 r.slot r.tag (byte r.status.code)
    (flagByte r.clamped :: (match r.status with
      | .ok => r.content
      | .badRequest | .badIndex | .badValue | .duplicate | .inUse | .wrongState | .toteBusy
      | .configMissing | .notReady => []))

end Sys2Proof.Machine
end

