-- ==== Sys2Proof/Machine/Notices.lean ====
section
/-! DEFINITION. Raising notices and the notice queue (chapter 11, sections 11.1 and 11.2). -/

namespace Sys2Proof.Machine

/-- A notice of a level is lost (R193, R196). -/
def TrunkPort.lose (level : Nat) (t : TrunkPort) : TrunkPort :=
  { t with
    lostCount := inc16 t.lostCount
    lostHighest := some (max (t.lostHighest.getD 0) level)
    noticesLostTotal := inc32 t.noticesLostTotal }

/-- The lowest level among notices. -/
def lowestLevel : List Notice → Option Nat
  | [] => none
  | n :: l =>
    match lowestLevel l with
    | none => some n.level
    | some m => some (min n.level m)

/-- A notice offered to the queue (R193): it joins, displaces the oldest candidate of the lowest level, or is discarded. -/
def TrunkPort.offerNotice (n : Notice) (t : TrunkPort) : TrunkPort :=
  if t.notices.length < Config.noticePlaces then { t with notices := t.notices ++ [n] }
  else
    match lowestLevel (t.notices.filter fun x => !x.sending) with
    | none => t.lose n.level
    | some m =>
      if m < n.level then
        ({ t with notices := t.notices.eraseP (fun x : Notice => !x.sending && x.level == m) ++ [n] }).lose m
      else t.lose n.level

/-- The level in force of a notice's kind (R192). -/
def Part.noticeLevel (p : Part) (b : NoticeBody) : Nat := p.tables.levels[b.index]

/-- A block raises a notice (R191): suppressed at level 0, else made with its level and time stamp, and offered. -/
def Part.raise (b : NoticeBody) (p : Part) : Part :=
  if p.noticeLevel b = 0 then p
  else p.modTrunk (·.offerNotice { body := b, level := p.noticeLevel b, stamp := p.seconds, sending := false })

/-- The end of a notice's send frees a place: NOTICES_LOST takes it if the lost count is above 0 (R194). -/
def Part.reportLost (p : Part) : Part :=
  if p.trunk.lostCount = 0 ∨ Config.noticePlaces ≤ p.trunk.notices.length then p
  else
    (p.when (p.noticeLevel (.noticesLost 0 none) != 0) fun q => q.modTrunk fun t =>
      { t with notices := t.notices ++
          [{ body := .noticesLost t.lostCount t.lostHighest, level := q.noticeLevel (.noticesLost 0 none),
             stamp := q.seconds, sending := false }] }).modTrunk fun t =>
      { t with lostCount := 0, lostHighest := none }

end Sys2Proof.Machine
end

