-- ==== Sys2Proof/Machine/Slots.lean ====
section
/-! DEFINITION. What the rules of several chapters share about one slot: its lamp and power (R40, R41, R126), its current step (section 3.2), what it references (R53), its recorded pair (R35), and the values of Table 2-1 (R17). -/

namespace Sys2Proof.Machine

/-! ### State, lamp and power -/

/-- The powered states (section 2.2). -/
def SlotState.powered : SlotState → Bool
  | .spinup | .ident | .running | .condemned | .draining => true
  | .empty | .seated | .powerWait | .spindown | .toteWait | .unloadReady => false

/-- The states whose slots offer a set-point and have entries of the server (R145). -/
def SlotState.atWork : SlotState → Bool
  | .running | .condemned | .draining => true
  | .empty | .seated | .powerWait | .spinup | .ident | .spindown | .toteWait | .unloadReady => false

/-- The states in which a slot is in a step and its watchdog can run (section 3.4, R160). -/
def SlotState.stepping : SlotState → Bool
  | .running | .condemned => true
  | .empty | .seated | .powerWait | .spinup | .ident | .draining | .spindown | .toteWait | .unloadReady => false

/-- The states in which test seconds count (R18). -/
def SlotState.testing : SlotState → Bool
  | .powerWait | .spinup | .ident | .running | .condemned | .draining | .spindown => true
  | .empty | .seated | .toteWait | .unloadReady => false

/-- The lamp of a slot with no bin lamp to show. -/
def Lamp.dark : Lamp := ⟨.off, .steady⟩

/-- The lamp pattern of a state (R40, Table 2-5); the silence stage counts in RUNNING, and the bin lamp in TOTE_WAIT and UNLOAD_READY. The blink of EMPTY is not stated (log entry 14). -/
def lampOf (st : SlotState) (stage1 : Bool) (bin : Option Lamp) : Lamp :=
  match st with
  | .empty => .dark
  | .seated => ⟨.amber, .steady⟩
  | .powerWait => ⟨.green, .hz1⟩
  | .spinup => ⟨.green, .hz2⟩
  | .ident => ⟨.green, .hz2⟩
  | .running => if stage1 then ⟨.amber, .hz8⟩ else ⟨.green, .steady⟩
  | .condemned => ⟨.amber, .hz2⟩
  | .draining => ⟨.green, .hz1⟩
  | .spindown => ⟨.amber, .hz1⟩
  | .toteWait => ⟨(bin.getD .dark).colour, .hz1⟩
  | .unloadReady => bin.getD .dark

/-- The lamp follows the state (R40), and the power enable line with it (R126). -/
def Slot.dress (s : Slot) : Slot :=
  { s with lamp := lampOf s.state s.stage1 s.binLamp, power := s.state.powered }

/-- A slot in a state, its lamp and power with it. -/
def Slot.into (st : SlotState) (s : Slot) : Slot := { s with state := st }.dress

/-- Is a blink phase lit (R48)? Each 1 s tick begins a period of every phase, so the phase follows from the millisecond count. -/
def blinkLit (b : Blink) (ms : Nat) : Bool :=
  match b with
  | .steady => true
  | .hz1 => ms < 500
  | .hz2 => ms % 500 < 250
  | .hz8 => ms % 125 < 62

/-- The colour a slot's lamp shows at this moment (R41). -/
def Part.shown (p : Part) (i : SlotId) : Colour :=
  if blinkLit (p.slot i).lamp.blink p.ms then (p.slot i).lamp.colour else .off

/-! ### Enable flags and presence -/

/-- Is the slot enabled (R22)? -/
def Part.enabled (p : Part) (i : SlotId) : Bool := p.tables.rack.enables[i]

/-- Is the debounced presence PRESENT (R20)? -/
def Part.present (p : Part) (i : SlotId) : Bool := (p.slot i).presence.value

/-! ### Recipes and steps -/

/-- The entry of a slot's current recipe; absent when the recipe id is. -/
def Part.recipeOf (p : Part) (i : SlotId) : Option RecipeEntry :=
  (p.slot i).recipe.map fun r => p.tables.recipes[r]

/-- The number of steps of the slot's current recipe. -/
def Part.stepCount (p : Part) (i : SlotId) : Nat :=
  match p.recipeOf i with
  | none => 0
  | some r => r.count

/-- Position `k` of the slot's current recipe: the step table entry at index first step + k (section 3.2). -/
def Part.stepAt (p : Part) (i : SlotId) (k : Nat) : Option StepEntry :=
  match p.recipeOf i with
  | none => none
  | some r => p.tables.steps[r.first + k]?

/-- The step the slot's step index names. -/
def Part.currentStep (p : Part) (i : SlotId) : Option StepEntry := p.stepAt i (p.slot i).stepIndex

/-- The silence interval of the current step; 0 is off (R160). -/
def Part.interval (p : Part) (i : SlotId) : Nat :=
  match p.currentStep i with
  | none => 0
  | some st => st.silence

/-- The limit set the slot's current recipe names (R109). -/
def Part.limitsOf (p : Part) (i : SlotId) : LimitSet :=
  match p.recipeOf i with
  | none => p.tables.limits[(0 : Fin 8)]
  | some r => p.tables.limits[r.limit]

/-- Does the slot reference its current recipe (R53)? -/
def Slot.references (s : Slot) : Bool :=
  match s.state with
  | .powerWait | .spinup | .ident | .running | .condemned | .draining => true
  | .spindown => s.retry
  | .empty | .seated | .toteWait | .unloadReady => false

/-- A silence timer at a step's start: running with the interval, or stopped if that is 0 (R55, R160). -/
def watchdog (interval : Nat) : Option Timer := if interval = 0 then none else some (.start interval)

/-! ### The record's values -/

/-- A disposition and its reason are recorded together, unless a pair is recorded already (R35). -/
def Slot.record (d : Fin 9) (r : Reason) (s : Slot) : Slot :=
  match s.disposition with
  | none => { s with disposition := some d, reason := r }
  | some _ => s

/-- The column "At START" of Table 2-1 (R17), but for the state and the lamp, which follow when the state changes. -/
def Slot.atStart (r : Fin 16) (s : Slot) : Slot :=
  { s with
    recipe := some r
    stepIndex := 0
    elapsed := 0
    dwell := 0
    stepDone := false
    shortfall := 0
    retests := 0
    disposition := none
    reason := .none
    density := none
    identity := none
    retry := false
    stage1 := false
    silenceTimer := none
    tote := none
    position := none
    recoveries := 0
    binLamp := none
    testSeconds := 0 }

/-- The column "On entering EMPTY" of Table 2-1 (R17), with every slot timer stopped but the eject hold timer; the state is EMPTY, and the lamp and power with it. -/
def Slot.atEmpty (s : Slot) : Slot :=
  { s with
    state := .empty
    recipe := none
    stepIndex := 0
    elapsed := 0
    dwell := 0
    stepDone := false
    shortfall := 0
    retests := 0
    disposition := none
    reason := .none
    density := none
    identity := none
    retry := false
    stage1 := false
    silenceTimer := none
    tote := none
    position := none
    lane := .opened
    recoveries := 0
    binLamp := none
    testSeconds := 0
    noShowTimer := none
    recoveryTimer := none
    spinupTimer := none
    spindownTimer := none }.dress

/-! ### Sticky conditions -/

/-- The sticky conditions changed by `f`. -/
def Slot.latch (f : Sticky → Sticky) (s : Slot) : Slot := { s with sticky := f s.sticky }

/-- The counters changed by `f`. -/
def Slot.tally (f : SlotCounters → SlotCounters) (s : Slot) : Slot := { s with counters := f s.counters }

end Sys2Proof.Machine
end

