-- ==== Sys2Proof/Machine/Score.lean ====
section
/-! DEFINITION. The Score Unit: what a counted completion adds to an accumulator record (chapter 5), and the grade computation (chapter 6). -/

namespace Sys2Proof.Machine

/-! ### Additions (R97 to R103) -/

/-- A completion handed to the Score Unit (R93), with what its entry copied. A TIMEOUT has no drive fields; no rule of the Score Unit reads the class. -/
structure Handing where
  status : Status
  delta : Nat
  coverage : Nat
  latency : Nat
  cls : Fin 8
  covers : Bool
  scored : Bool
  slow : Nat
  step : Nat
deriving DecidableEq, Repr

/-- Is the status that of a drive's completion? -/
def Status.ofDrive : Status → Bool
  | .drive _ => true
  | .refusedState | .refusedRecovering | .refusedZone | .refusedClass | .refusedTag | .refusedFull
  | .refusedSize | .timeout | .aborted | .removed | .powerLost => false

/-- Is a counted completion of this status a measured completion (section 5.5)? -/
def Status.measured : Status → Bool
  | .drive .good | .drive .corrected | .drive .uncorrectable | .drive .driveError => true
  | .drive .driveReject | .refusedState | .refusedRecovering | .refusedZone | .refusedClass | .refusedTag
  | .refusedFull | .refusedSize | .timeout | .aborted | .removed | .powerLost => false

/-- The bucket of a latency (R101). -/
def bucketOf (l : Nat) : Fin 8 :=
  if l < 2 then 0
  else if l < 4 then 1
  else if l < 8 then 2
  else if l < 16 then 3
  else if l < 32 then 4
  else if l < 64 then 5
  else if l < 128 then 6
  else 7

/-- A bucket is increased by 1; a full one has all eight halved first (R102). -/
def histAdd (b : Fin 8) (h : Vector Nat 8) : Vector Nat 8 :=
  let g := if h[b] = Config.max16 then mapV (· / 2) h else h
  g.set b (g[b] + 1)

/-- V (R97). -/
def Accum.addCoverage (x : Handing) (a : Accum) : Accum :=
  if (x.status = .drive .good ∨ x.status = .drive .corrected) ∧ x.covers then
    { a with v := satAdd Config.max32 a.v x.coverage }
  else a

/-- U (R98). -/
def Accum.addUncorrectable (x : Handing) (a : Accum) : Accum :=
  if x.status = .drive .uncorrectable then { a with u := inc16 a.u } else a

/-- C (R98). -/
def Accum.addCorrected (x : Handing) (a : Accum) : Accum :=
  if x.status = .drive .corrected then { a with c := inc16 a.c } else a

/-- F (R98). -/
def Accum.addFault (x : Handing) (a : Accum) : Accum :=
  if x.status = .drive .driveError ∨ x.status = .timeout then { a with f := inc16 a.f } else a

/-- R (R99). -/
def Accum.addReallocations (x : Handing) (a : Accum) : Accum :=
  if x.status.ofDrive then { a with r := satAdd Config.max16 a.r x.delta } else a

/-- S (R100). -/
def Accum.addSlow (x : Handing) (a : Accum) : Accum :=
  if x.status.measured ∧ x.slow < x.latency then { a with s := inc16 a.s } else a

/-- The histogram (R101, R102). -/
def Accum.addLatency (x : Handing) (a : Accum) : Accum :=
  if x.status.measured then { a with hist := histAdd (bucketOf x.latency) a.hist } else a

/-- The additions of a counted completion, in their order (R96). -/
def Accum.count (x : Handing) (a : Accum) : Accum :=
  (((((((a.addCoverage x).addUncorrectable x).addCorrected x).addFault x).addReallocations x).addSlow x).addLatency x)

/-- Is the completion counted (R95): the step that admitted it scores, its class is SCORED, and the record is not frozen? -/
def Part.counts (p : Part) (i : SlotId) (x : Handing) : Bool :=
  (match p.stepAt i x.step with
   | none => false
   | some st => st.scoring) && x.scored && !(p.slot i).acc.frozen

/-- A completion is handed to the Score Unit (R93, R96). The answer says whether the slot is condemned (R104): then its record is frozen, and the Slot Engine takes the condemnation later in the same event. -/
def Part.hand (i : SlotId) (x : Handing) (p : Part) : Part × Bool :=
  if p.counts i x then
    let a := (p.slot i).acc.count x
    if (p.limitsOf i).cap < a.u then (p.modSlot i fun s => { s with acc := { a with frozen := true } }, true)
    else (p.modSlot i fun s => { s with acc := a }, false)
  else (p, false)

/-! ### The grade computation (R110 to R116) -/

/-- What the computation yields (R110). -/
structure Graded where
  disposition : Fin 9
  reason : Reason
  density : Option Nat
deriving DecidableEq, Repr

/-- Stage 3: the weighted sum (R113). -/
def weightedSum (l : LimitSet) (a : Accum) : Nat :=
  l.wu * a.u + l.wr * a.r + l.wc * a.c + l.wf * a.f + l.ws * a.s

/-- Stage 4: the defect density, held at 65535 (R113). -/
def densityOf (l : LimitSet) (a : Accum) : Nat :=
  min Config.max16 (weightedSum l a * 1048576 / a.v)

/-- Stage 5: the number of thresholds a density exceeds (R114). -/
def baseGrade (l : LimitSet) (d : Nat) : Nat :=
  ([l.t1, l.t2, l.t3, l.t4, l.t5, l.t6].filter (· < d)).length

/-- The sum of the buckets from `b` to 7 (R115). -/
def tailFrom (b : Nat) (h : Vector Nat 8) : Nat := (h.toList.drop b).foldl (· + ·) 0

/-- Stage 6: the demotion for the latency tail, 0 or 1 (R115). -/
def tailDemotion (l : LimitSet) (a : Accum) : Nat :=
  if 0 < tailFrom 0 a.hist ∧ tailFrom 0 a.hist * l.p < tailFrom l.bt a.hist * 1000 then 1 else 0

/-- Stages 5 to 8: the grade of a density (R114 to R116). -/
def gradeOf (l : LimitSet) (a : Accum) (shortfall : Nat) : Nat :=
  min 6 (baseGrade l (densityOf l a) + tailDemotion l a + shortfall)

/-- A grade is 0–6, so it is a disposition. -/
theorem gradeOf_lt (l : LimitSet) (a : Accum) (n : Nat) : gradeOf l a n < 9 := by
  unfold gradeOf; omega

/-- The grade computation (R110): the hard reason (R111), the coverage (R112), and the grade. -/
def computeGrade (l : LimitSet) (a : Accum) (recorded : Option (Fin 9)) (reason : Reason) (shortfall : Nat) : Graded :=
  match recorded with
  | some d => ⟨d, reason, none⟩
  | none =>
    if a.v = 0 ∨ a.v < l.vmin then ⟨7, .coverage, none⟩
    else ⟨⟨gradeOf l a shortfall, gradeOf_lt l a shortfall⟩, .none, some (densityOf l a)⟩

/-- The computation on a slot's values at this moment (R109, R110). -/
def Part.graded (p : Part) (i : SlotId) : Graded :=
  computeGrade (p.limitsOf i) (p.slot i).acc (p.slot i).disposition (p.slot i).reason (p.slot i).shortfall

/-- The interim grade (R119): in RUNNING, CONDEMNED and DRAINING. -/
def Part.interim (p : Part) (i : SlotId) : Option Graded :=
  if (p.slot i).state.atWork then some (p.graded i) else none

end Sys2Proof.Machine
end

