-- ==== Sys2Proof/Machine/Lane.lean ====
section
/-! DEFINITION. The slot lane and the outstanding list (chapter 4): classes, admission, lane sends, completions made for entries. What ends a test, and the answers of drives, stand with the slot life cycle. -/

namespace Sys2Proof.Machine

/-! ### The upstream completion queue (R13) -/

/-- A completion made for an outstanding entry is appended at once (R13). -/
def Part.pushCompletion (c : Completion) (p : Part) : Part :=
  p.modTrunk fun t => { t with completions := t.completions ++ [c] }

/-- A refusal completion is appended below 64 completions, and dropped otherwise (R13, R16). -/
def Part.pushRefusal (c : Completion) (p : Part) : Part :=
  p.modTrunk fun t =>
    if t.completions.length < Config.refusalHeadroom then { t with completions := t.completions ++ [c] }
    else { t with refusalsUnsent := inc32 t.refusalsUnsent }

/-- The completion the part makes for an entry (R80): no drive fields and no latency, the entry's own step and class. -/
def Entry.madeCompletion (i : SlotId) (st : Status) (e : Entry) : Completion :=
  { slot := i, tag := e.tag, status := st, delta := 0, coverage := 0, identity := none, latency := 0,
    step := e.step, cls := e.cls, forEntry := true }

/-- The completion of a drive's answer (R80): the identity goes upstream only for class 0. -/
def Entry.drivenCompletion (i : SlotId) (m : CompletionMsg) (latency : Nat) (e : Entry) : Completion :=
  { slot := i, tag := e.tag, status := .drive m.status, delta := m.delta, coverage := m.coverage,
    identity := if e.cls = 0 then m.identity else none, latency, step := e.step, cls := e.cls, forEntry := true }

/-! ### Entries -/

/-- The identity probe's tag (R88). -/
def probeTag : Byte := 255

/-- Is the entry the identity probe? -/
def Entry.isProbe (e : Entry) : Bool := e.tag == probeTag

/-- Is the entry not yet DONE? -/
def Entry.live (e : Entry) : Bool := e.state != .done

/-- Is the entry ISSUED? -/
def Entry.isIssued (e : Entry) : Bool :=
  match e.state with
  | .issued _ _ => true
  | .queued => false
  | .done => false

/-- The list with the entry of a tag changed by `f`. -/
def setEntry (tag : Byte) (f : Entry → Entry) (l : List Entry) : List Entry :=
  l.map fun e => if e.tag == tag then f e else e

/-- The entry becomes DONE; its command timer stops with it (R73). -/
def Entry.finish (e : Entry) : Entry := { e with state := .done }

/-- Every entry not DONE becomes DONE with a status, oldest first, its completion appended; the probe gets no completion (R31, R38, R82). -/
def Part.completeOpen (i : SlotId) (st : Status) (p : Part) : Part :=
  (p.each ((p.slot i).outstanding.filter fun e => e.live && !e.isProbe) fun e q =>
      q.pushCompletion (e.madeCompletion i st)).modSlot i fun s =>
    { s with outstanding := (s.outstanding.filter fun e => !e.isProbe).map Entry.finish }

/-! ### The lane transmitter (R74, R75, R76) -/

/-- A COMMAND send in progress is cut short (R76): how many of its bytes have gone out is a free value (log entry 10). -/
def Part.cutCommand (i : SlotId) (p : Part) : Part :=
  match (p.slot i).laneTx with
  | .idle => p
  | .resetLane => p
  | .command _ unit =>
    { p.modSlot i fun s =>
        { s with
          laneTx := .idle
          laneOut := some (.cutShort (cutUnit unit (min (Config.cutLength p.fresh) (unit.length - 1)))) }
      with fresh := p.fresh + 1 }

/-- A RESET_LANE send in progress is dropped as a COMMAND's is: only a presence loss does this (R76). -/
def Part.cutReset (i : SlotId) (p : Part) : Part :=
  match (p.slot i).laneTx with
  | .idle => p
  | .command _ _ => p
  | .resetLane =>
    { p.modSlot i fun s =>
        { s with
          laneTx := .idle
          laneOut := some (.cutShort (cutUnit resetLaneUnit (min (Config.cutLength p.fresh) (resetLaneUnit.length - 1)))) }
      with fresh := p.fresh + 1 }

/-- RESET_LANE is sent (R74): a COMMAND send is cut short; a RESET_LANE in progress carries this one too. -/
def Part.sendReset (i : SlotId) (p : Part) : Part :=
  (p.cutCommand i).modSlot i fun s => { s with laneTx := .resetLane }

/-- The COMMAND unit of an entry (R74, R203). -/
def Entry.unit (e : Entry) : List Byte := commandUnit e.tag e.code e.body

/-- The lane transmitter considers the list (R74): idle, and the lane OPEN, it begins the oldest QUEUED entry. -/
def Slot.kick (s : Slot) : Slot :=
  if s.laneTx = .idle ∧ s.lane = .opened then
    match s.outstanding.find? fun e => e.state == .queued with
    | none => s
    | some e => { s with laneTx := .command e.tag e.unit }
  else s

/-- A COMMAND send ended: the entry is ISSUED, with its issue time and, unless it is the probe, its command timer (R75, R88). -/
def Entry.issue (now : Time) (e : Entry) : Entry :=
  { e with state := .issued now (if e.isProbe then none else some (.start e.timeout)) }

/-- The part's time (R47). -/
def Part.now (p : Part) : Time := ⟨p.seconds, p.ms⟩

/-- Milliseconds from one time to another, the seconds count taken modulo 2^32 (R78, R94). -/
def elapsedMs (t0 t1 : Time) : Nat := ((t1.seconds - t0.seconds).toNat * 1000 + t1.ms) - t0.ms

/-- LANE_COMMAND_SEND_END (R75). -/
def Part.commandSent (i : SlotId) (p : Part) : Part :=
  match (p.slot i).laneTx with
  | .idle => p
  | .resetLane => p
  | .command tag unit =>
    p.modSlot i fun s =>
      { s with
        laneTx := .idle
        laneOut := some (.whole unit)
        outstanding := setEntry tag (·.issue p.now) s.outstanding }.kick

/-- RESET_LANE_SEND_END (R74). -/
def Part.resetSent (i : SlotId) (p : Part) : Part :=
  match (p.slot i).laneTx with
  | .idle => p
  | .command _ _ => p
  | .resetLane => p.modSlot i fun s => { s with laneTx := .idle, laneOut := some (.whole resetLaneUnit) }.kick

/-- The lane state becomes OPEN and a recovery window in progress stops (R31, R46, R86). -/
def Slot.openLane (s : Slot) : Slot := { s with lane := .opened, recoveryTimer := none }

/-! ### The watchdog's service (R161) -/

/-- A service of the slot's silence watchdog (R161). -/
def Part.serviceSilence (i : SlotId) (p : Part) : Part :=
  if (p.slot i).state.stepping ∧ 0 < p.interval i then
    p.modSlot i fun s => { s with stage1 := false, silenceTimer := watchdog (p.interval i) }.dress
  else p

/-! ### Admission (R69 to R72) -/

/-- The class of a command code (R69). -/
def Part.classOf (p : Part) (code : Byte) : Fin 8 :=
  match p.tables.filters.toList.find? fun f => f.valid && f.code == code with
  | none => 7
  | some f => f.cls

/-- Does the current step's class mask allow a class (R70, check 5)? -/
def Part.allows (p : Part) (i : SlotId) (c : Fin 8) : Bool :=
  match p.currentStep i with
  | none => false
  | some st => st.mask[c]

/-- The eight admission checks in their order (R70): the status of the first that fails. -/
def Part.admission (p : Part) (i : SlotId) (tag code : Byte) (body : List Byte) : Option Status :=
  let s := p.slot i
  if tag = probeTag then some .refusedTag
  else if !s.state.stepping then some .refusedState
  else if s.lane ≠ .opened then some .refusedRecovering
  else if (p.zone (zoneOf i)).state = .alarm then some .refusedZone
  else if !p.allows i (p.classOf code) then some .refusedClass
  else if s.outstanding.any (fun e => e.tag == tag) then some .refusedTag
  else if Config.listPlaces ≤ s.outstanding.length then some .refusedFull
  else if Config.laneBodyMax < body.length then some .refusedSize
  else none

/-- A refused command (R71). -/
def Part.refuse (i : SlotId) (tag code : Byte) (st : Status) (p : Part) : Part :=
  (p.pushRefusal
      { slot := i, tag, status := st, delta := 0, coverage := 0, identity := none, latency := 0, step := 255,
        cls := p.classOf code, forEntry := false }).modSlot i fun s =>
    (s.tally fun c => { c with refused := inc16 c.refused }).latch fun c => { c with refusedSeen := true }

/-- The entry of an admitted command (R72). -/
def Part.newEntry (p : Part) (i : SlotId) (tag code : Byte) (body : List Byte) : Entry :=
  let c := p.tables.classes[p.classOf code]
  { tag, code, body, cls := p.classOf code, timeout := c.timeout, slow := c.slow, coverage := c.coverage,
    scored := c.scored, step := (p.slot i).stepIndex, state := .queued }

/-- An admitted command (R72): the entry joins the list, the watchdog is serviced, and an idle lane takes it up. -/
def Part.admitEntry (i : SlotId) (e : Entry) (p : Part) : Part :=
  ((p.modSlot i fun s =>
      { s with outstanding := s.outstanding ++ [e] }.tally fun c =>
        { c with accepted := inc16 c.accepted }).serviceSilence i).modSlot i Slot.kick

/-- A SLOT_COMMAND at its Slot Engine (R70). -/
def Part.slotCommand (i : SlotId) (tag code : Byte) (body : List Byte) (p : Part) : Part :=
  match p.admission i tag code body with
  | some st => p.refuse i tag code st
  | none => p.admitEntry i (p.newEntry i tag code body)

/-! ### Orphans and dropped units (R77, R79) -/

/-- An orphan completion (R79). -/
def Part.orphan (i : SlotId) (p : Part) : Part :=
  p.modSlot i fun s =>
    (s.tally fun c => { c with orphans := inc16 c.orphans }).latch fun c => { c with orphanSeen := true }

/-- A unit that is dropped (R77). -/
def Part.laneError (i : SlotId) (p : Part) : Part :=
  p.modSlot i (·.tally fun c => { c with laneErrors := inc16 c.laneErrors })

end Sys2Proof.Machine
end

