-- ==== Sys2Proof/Machine/Zones.lean ====
section
/-! DEFINITION. The Zone Controllers (chapter 8): the request, the zone state, the alarm, and regulation. The trips of slots stand with the slot life cycle. -/

namespace Sys2Proof.Machine

/-! ### The request (R145) -/

/-- The set-point a slot offers and the ramp with it: that of its step while it is at work; a set-point of 0 offers nothing. -/
def Part.offered (p : Part) (i : SlotId) : Option (Int × Nat) :=
  if (p.slot i).state.atWork then
    match p.currentStep i with
    | none => none
    | some st => if st.setPoint = 0 then none else some (st.setPoint, st.ramp)
  else none

/-- The lower of a request and a slot's offer; the request stands when they are equal. -/
def lowerRequest (p : Part) (best : Option ZoneRequest) (i : SlotId) : Option ZoneRequest :=
  match p.offered i with
  | none => best
  | some (sp, ramp) =>
    match best with
    | none => some ⟨sp, i, ramp⟩
    | some b => if sp < b.setPoint then some ⟨sp, i, ramp⟩ else some b

/-- The request of a zone: the lowest set-point offered, of the lowest-numbered slot that offers it. -/
def Part.formRequest (p : Part) (z : ZoneId) : Option ZoneRequest :=
  (slotsOf z).foldl (lowerRequest p) none

/-! ### The zone state (R146, R147) -/

/-- The state of a zone: the first row of Table 8-3 whose condition holds. -/
def Zone.judged (doorOpen : Bool) (z : Zone) : ZoneState :=
  if z.sensorFault then .sensorFault
  else if z.alarm ≠ .stopped then .alarm
  else if doorOpen then .held
  else if z.request.isSome && z.temperature.isSome then .regulating
  else .idle

/-- The fan level of a state that is not REGULATING (Table 8-3). -/
def fanOf (st : ZoneState) (base : Nat) (old : Nat) : Nat :=
  match st with
  | .sensorFault => 100
  | .alarm => 100
  | .held => base
  | .idle => base
  | .regulating => old

/-- A zone enters a state other than the one it holds (R147). -/
def Zone.enter (fanBase : Nat) (st : ZoneState) (z : Zone) : Zone :=
  { z with
    state := st
    integral := if z.state = .regulating ∨ st = .regulating then 0 else z.integral
    rampAcc := if z.state = .regulating ∨ st = .regulating then 0 else z.rampAcc
    target := if st = .regulating then z.temperature else if z.state = .regulating then none else z.target
    duty := if st = .regulating then z.duty else 0
    fan := fanOf st fanBase z.fan }

/-- ZONE_ALARM_SEEN latched on the zone's four slots (R42, R152). -/
def Part.latchAlarm (z : ZoneId) (p : Part) : Part :=
  p.each (slotsOf z) fun i q => q.modSlot i (·.latch fun c => { c with zoneAlarmSeen := true })

/-- A zone's state is judged, and entered if it is not the state held (R146). Each entry into ALARM latches ZONE_ALARM_SEEN (R42). -/
def Part.judgeZone (z : ZoneId) (p : Part) : Part :=
  let st := (p.zone z).judged p.door.value
  if st = (p.zone z).state then p
  else (p.modZone z (·.enter p.tables.rack.fanBase st)).when (st == .alarm) (Part.latchAlarm z)

/-- A zone takes an offer (R145): the request is formed anew, and the state judged. -/
def Part.takeOffer (z : ZoneId) (p : Part) : Part :=
  (p.modZone z fun q => { q with request := p.formRequest z }).judgeZone z

/-! ### Samples (R143, R144, R152) -/

/-- What a sample shows: a valid temperature, or why there is none (R143). -/
def readSample : SensorAnswer → Except LastSample Int
  | .noAnswer => .error .noAnswer
  | .value v => if -40 ≤ v.toInt ∧ v.toInt ≤ 220 then .ok v.toInt else .error .outOfRange

/-- The temperature, the last sample and the validity runs after a sample (R143, R144). -/
def Zone.sampled (x : Except LastSample Int) (z : Zone) : Zone :=
  match x with
  | .ok t => { z with temperature := some t, lastSample := some .valid, validRun := min 3 (z.validRun + 1), invalidRun := 0 }
  | .error e => { z with lastSample := some e, invalidRun := min 3 (z.invalidRun + 1), validRun := 0 }

/-- A notice whose raising rule leaves fields of it open is raised: those fields are free values, drawn with the counter `fresh` (log entry 10). -/
def Part.drawn (f : Nat → NoticeBody) (p : Part) : Part :=
  { p.raise (f p.fresh) with fresh := p.fresh + 1 }

/-- The last sample a code stands for (section 12.3). -/
def lastSampleOf (k : Fin 4) : Option LastSample :=
  match k with
  | 0 => none
  | 1 => some .valid
  | 2 => some .outOfRange
  | 3 => some .noAnswer

/-- The sensor fault indication follows the runs (R144). -/
def Part.judgeFault (z : ZoneId) (p : Part) : Part :=
  let zn := p.zone z
  if zn.invalidRun = 3 ∧ zn.sensorFault = false then
    (p.modZone z fun q => { q with sensorFault := true }).raise (.zoneSensorFault z false zn.lastSample zn.temperature)
  else if zn.validRun = 3 ∧ zn.sensorFault = true then
    (p.modZone z fun q => { q with sensorFault := false }).drawn fun k =>
      .zoneSensorFault z true (lastSampleOf (Config.unstatedLastSample k)) zn.temperature
  else p

/-- The alarm condition judged on a valid sample of temperature `t` (R152). -/
def Part.judgeAlarm (z : ZoneId) (t : Int) (p : Part) : Part :=
  let zn := p.zone z
  let hard := p.tables.rack.hardLimit
  if hard ≤ t ∧ zn.alarm = .stopped then
    ((p.modZone z fun q => { q with alarm := .running (.start p.tables.rack.tripTime) }).latchAlarm z).drawn fun k =>
      .zoneAlarm z .raised (some t) (BitVec.ofNat 16 hard) (Config.unstatedTripped k)
  else if t < hard - 4 ∧ zn.alarm ≠ .stopped then
    (p.modZone z fun q => { q with alarm := .stopped }).drawn fun k =>
      .zoneAlarm z .cleared (some t) (Config.unstatedHardLimit k) (zn.alarm == .expired)
  else p

/-! ### Regulation (R148 to R151) -/

/-- The moves of a ramp: while 60 or more is accumulated and the target is not the request, one hd toward it for 60. -/
def rampMoves : Nat → Int → Int → Nat → Int × Nat
  | 0, _, target, acc => (target, acc)
  | k + 1, request, target, acc =>
    if 60 ≤ acc ∧ target ≠ request then
      rampMoves k request (if target < request then target + 1 else target - 1) (acc - 60)
    else (target, acc)

/-- The ramp of one sample (R148): the ramped target and the accumulator after it. -/
def rampOf (r : ZoneRequest) (target : Int) (acc : Nat) : Int × Nat :=
  let m := rampMoves ((acc + r.ramp) / 60) r.setPoint target (acc + r.ramp)
  (m.1, if m.1 = r.setPoint then 0 else m.2)

/-- The control value of an error and an integral (R149, step 3); division rounds toward minus infinity. -/
def controlOf (rack : RackSettings) (e i : Int) : Int := rack.kp * e + (rack.ki * i) / 64

/-- The heater duty and the integral kept, of an error (R149, R150). -/
def heaterOf (rack : RackSettings) (e i : Int) : Nat × Int :=
  let held := clampZ (-(rack.imax : Int)) rack.imax (i + e)
  let u := controlOf rack e held
  ((clampZ 0 255 u).toNat, if (255 < u ∧ 0 < e) ∨ (u < 0 ∧ e < 0) then i else held)

/-- The three computations of a sample in REGULATING (section 8.5). -/
def Zone.regulate (rack : RackSettings) (z : Zone) : Zone :=
  match z.target, z.temperature with
  | some tg, some t =>
    let m := match z.request with
      | none => (tg, z.rampAcc)
      | some r => rampOf r tg z.rampAcc
    let h := heaterOf rack (m.1 - t) z.integral
    { z with
      target := some m.1
      rampAcc := m.2
      duty := h.1
      integral := h.2
      fan := if m.1 + rack.fanBand < t then 100 else rack.fanBase }
  | _, _ => z

/-- The outputs of a sample by the state it left (R143): regulation, the fan base, or nothing. -/
def Part.regulateZone (z : ZoneId) (p : Part) : Part :=
  match (p.zone z).state with
  | .regulating => p.modZone z (·.regulate p.tables.rack)
  | .idle => p.modZone z fun q => { q with fan := p.tables.rack.fanBase }
  | .held => p.modZone z fun q => { q with fan := p.tables.rack.fanBase }
  | .alarm => p
  | .sensorFault => p

/-- A sample at its Zone Controller, but for the repeated trips (R143). -/
def Part.sampleZone (z : ZoneId) (a : SensorAnswer) (p : Part) : Part :=
  let x := readSample a
  let p1 := (p.modZone z (·.sampled x)).judgeFault z
  let p2 := match x with
    | .ok t => p1.judgeAlarm z t
    | .error _ => p1
  (p2.judgeZone z).regulateZone z

/-- A zone record after a rack reset (R158): the values of power-on, with its state judged by the door and the fan at the base in force; the duty of 0 reaches the heater drive from the next heater period (R147). -/
def Zone.rackReset (rack : RackSettings) (doorOpen : Bool) (z : Zone) : Zone :=
  { Zone.powerUp with state := if doorOpen then .held else .idle, fan := rack.fanBase, heldDuty := z.heldDuty }

end Sys2Proof.Machine
end

