-- ==== Sys2Proof/Machine/Sort.lean ====
section
/-! DEFINITION. A slot's change of state with what always goes with it (R19, R40, R126, R145), and the Sort Unit: tote places, wait queues, manifests, swap and withdrawal (chapter 10, R37). -/

namespace Sys2Proof.Machine

/-! ### Changes of slot state -/

/-- A slot's state changes: the lamp (R40) and the power enable line (R126) follow; SLOT_STATE is raised (R19); and a slot that enters or leaves RUNNING, CONDEMNED or DRAINING makes an offer to its zone (R145). -/
def Part.changeState (i : SlotId) (st : SlotState) (p : Part) : Part :=
  let old := (p.slot i).state
  ((p.modSlot i (·.into st)).raise (.slotState i old st)).when (old.atWork || st.atWork) (Part.takeOffer (zoneOf i))

/-! ### Places (R178 to R182) -/

/-- The fill of a tote: the number of its manifest's entries (R177). -/
def Tote.fill (t : Tote) : Nat := t.manifest.length

/-- The capacity in force of a tote (R175). -/
def Part.capacity (p : Part) (t : ToteId) : Nat := p.tables.capacities[t]

/-- The manifest entry of a slot at a position, RESERVED (R178). -/
def Slot.manifestEntry (i : SlotId) (pos : Nat) (s : Slot) : ManifestEntry :=
  { position := pos, slot := i, identity := s.identity, disposition := s.disposition, reason := s.reason,
    density := s.density, retests := s.retests, recipe := s.recipe, testSeconds := s.testSeconds, placed := false }

/-- A reservation (R180), in its order: the entry, UNLOAD_READY, TOTE_FULL if the tote is full, and the slot's move. -/
def Part.reserve (t : ToteId) (i : SlotId) (p : Part) : Part :=
  let pos := (p.tote t).fill + 1
  let s := p.slot i
  let p1 := (p.modTote t fun q => { q with manifest := q.manifest ++ [s.manifestEntry i pos] }).raise
    (.unloadReady i t pos s.disposition s.reason)
  let p2 := p1.when (pos == p.capacity t) fun q =>
    (q.modTote t fun x => { x with state := .full }).raise (.toteFull t pos (q.tote t).wait.length)
  (p2.modSlot i fun x => { x with position := some pos }).changeState i .unloadReady

/-- A tote request (R179): a place at once in an OPEN tote, or the tail of the wait queue (R181). -/
def Part.requestPlace (t : ToteId) (i : SlotId) (p : Part) : Part :=
  match (p.tote t).state with
  | .opened => p.reserve t i
  | .full => p.modTote t fun q => { q with wait := q.wait ++ [i] }
  | .absent => p.modTote t fun q => { q with wait := q.wait ++ [i] }

/-- The wait queue of a tote is served (R182): one reservation after another, until the tote is full or the queue is empty. -/
def Part.serveQueue (t : ToteId) : Nat → Part → Part
  | 0, p => p
  | k + 1, p =>
    match (p.tote t).state, (p.tote t).wait with
    | .opened, i :: rest => Part.serveQueue t k ((p.modTote t fun q => { q with wait := rest }).reserve t i)
    | _, _ => p

/-- Serving a queue from its head: at most as many reservations as slots wait. -/
def Part.serve (t : ToteId) (p : Part) : Part := p.serveQueue t (p.tote t).wait.length

/-- TOTE_WAIT entry (R37): the bin of the disposition is read, its tote and lamp are copied, and a place is asked for. -/
def Part.enterToteWait (i : SlotId) (p : Part) : Part :=
  let b := p.tables.bins[(p.slot i).disposition.getD 8]
  ((p.modSlot i fun s => { s with tote := some b.tote, binLamp := some ⟨b.colour, b.blink⟩ }).changeState i
    .toteWait).requestPlace b.tote i

/-! ### Placement and stray removal (R183, R184) -/

/-- A placement (R183): the RESERVED entry that names the slot becomes PLACED, in the slot's tote at its position. -/
def Part.place (i : SlotId) (p : Part) : Part :=
  match (p.slot i).tote, (p.slot i).position with
  | some t, some pos =>
    p.modTote t fun q =>
      { q with manifest := q.manifest.map fun e =>
          if e.position == pos && e.slot == i && !e.placed then { e with placed := true } else e }
  | _, _ => p

/-- A stray removal (R184): the slot leaves its tote's wait queue, and STRAY_REMOVAL is raised. -/
def Part.stray (i : SlotId) (p : Part) : Part :=
  (match (p.slot i).tote with
   | none => p
   | some t => p.modTote t fun q => { q with wait := q.wait.filter (· != i) }).raise
    (.strayRemoval i (p.slot i).tote (p.slot i).disposition)

/-! ### Swap, withdrawal and capacity (R176, R185, R186) -/

/-- Does a tote's manifest hold a RESERVED entry? -/
def Tote.busy (t : Tote) : Bool := t.manifest.any fun e => !e.placed

/-- The number of RESERVED entries (R188). -/
def Tote.reserved (t : Tote) : Nat := (t.manifest.filter fun e => !e.placed).length

/-- TOTE_SWAP's effects (R185). -/
def Part.swap (t : ToteId) (p : Part) : Part :=
  (p.modTote t fun q => { q with manifest := [], state := .opened }).serve t

/-- TOTE_WITHDRAW's effects (R186). -/
def Part.withdraw (t : ToteId) (p : Part) : Part :=
  p.modTote t fun q => { q with manifest := [], state := .absent }

/-- The effects of a stored capacity on its tote (R176). -/
def Part.capacityChanged (t : ToteId) (cap : Nat) (p : Part) : Part :=
  let q := p.tote t
  match q.state with
  | .absent => p
  | .opened =>
    if cap = q.fill then
      (p.modTote t fun x => { x with state := .full }).raise (.toteFull t q.fill q.wait.length)
    else p
  | .full => if q.fill < cap then (p.modTote t fun x => { x with state := .opened }).serve t else p

end Sys2Proof.Machine
end

