-- ==== Sys2Proof/Machine/Life.lean ====
section
/-! DEFINITION. The slot life cycle: the spin-up queue and grants (chapter 7), steps (chapter 3), draining and retests (R29, R30, R121), spin-down (R36, R135), early ends (R31), no-shows (R27), condemnation (R28), aborts (R33), presence loss (R38). -/

namespace Sys2Proof.Machine

/-! ### Grants (R128 to R133) -/

/-- A slot joins the tail of the spin-up queue (R128). -/
def Part.joinQueue (i : SlotId) (p : Part) : Part := { p with spinQueue := p.spinQueue ++ [i] }

/-- A slot leaves the spin-up queue from wherever it stands (R128). -/
def Part.leaveQueue (i : SlotId) (p : Part) : Part := { p with spinQueue := p.spinQueue.filter (· != i) }

/-- The length of a spin-up window started now (R133): doubled on the retry grant. -/
def Part.windowLength (p : Part) (i : SlotId) : Nat :=
  if (p.slot i).retry then 2 * p.tables.rack.spinupWindow else p.tables.rack.spinupWindow

/-- One grant to the slot at the head of the queue (R129, R24). -/
def Part.grant (i : SlotId) (rest : List SlotId) (p : Part) : Part :=
  (({ p with spinQueue := rest, spinCount := p.spinCount + 1 }).modSlot i fun s =>
    { s with spinupTimer := some (.start (p.windowLength i)) }).changeState i .spinup

/-- Grants one after another until a condition of R129 fails. -/
def Part.grantLoop : Nat → Part → Part
  | 0, p => p
  | k + 1, p =>
    match p.spinQueue with
    | [] => p
    | i :: rest =>
      if p.spinCount < p.tables.rack.budget ∧ p.door.value = false then Part.grantLoop k (p.grant i rest) else p

/-- An occasion for a grant (R130). -/
def Part.grants (p : Part) : Part := p.grantLoop p.spinQueue.length

/-! ### Steps (R55, R60, R63) -/

/-- STEP_ENDED for the step the slot is in (R63). -/
def Part.stepEnded (i : SlotId) (e : Ending) (p : Part) : Part :=
  let s := p.slot i
  p.raise (.stepEnded i s.recipe s.stepIndex s.elapsed s.dwell e)

/-- Items 2 to 4 of the step entry event (R55), at position `k` of the current recipe. -/
def Part.stepEnter (i : SlotId) (k : Nat) (p : Part) : Part :=
  let n := match p.stepAt i k with
    | none => 0
    | some st => st.silence
  (p.modSlot i fun s =>
    { s with stepIndex := k, elapsed := 0, dwell := 0, stepDone := false, stage1 := false,
             silenceTimer := watchdog n }.dress).takeOffer (zoneOf i)

/-- Does the current step end at its entry (R55, item 5)? -/
def Part.endsAtEntry (p : Part) (i : SlotId) : Bool :=
  match p.currentStep i with
  | none => false
  | some st => st.advance == .dwell && st.dwell == 0

/-- Is the step the recipe's last (R29)? -/
def Part.atLastStep (p : Part) (i : SlotId) : Bool := p.stepCount i ≤ (p.slot i).stepIndex + 1

/-- Item 5 of the step entry event (R55): steps that end at entry follow one another. The answer says whether the recipe's last step ended at its entry; its end is DRAINING entry. -/
def Part.chain (i : SlotId) : Nat → Part → Part × Bool
  | 0, p => (p, false)
  | k + 1, p =>
    if p.endsAtEntry i then
      if p.atLastStep i then (p, true)
      else Part.chain i k ((p.stepEnded i .dwellReached).stepEnter i ((p.slot i).stepIndex + 1))
    else (p, false)

/-! ### Spin-down (R36, R135) -/

/-- The end of the spin-down wait (R36): the spin-up queue again on a retry, or TOTE_WAIT. -/
def Part.spindownOver (i : SlotId) (p : Part) : Part :=
  let q := p.modSlot i fun s => { s with spindownTimer := none }
  if (p.slot i).retry then ((q.changeState i .powerWait).joinQueue i).grants else q.enterToteWait i

/-- A slot enters SPINDOWN with its power off and the spin-down wait started (R126, R135); a wait of 0 expires at once (R49). -/
def Part.enterSpindown (i : SlotId) (p : Part) : Part :=
  let n := p.tables.rack.spindownWait
  let q := (p.modSlot i fun s => { s with spindownTimer := some (.start n) }).changeState i .spindown
  if n = 0 then q.spindownOver i else q

/-! ### Draining, grading and retests (R29, R30, R117, R121) -/

/-- DRAINING entry (R29) from a step that ends with `e`; the silence watchdog stops (R160). -/
def Part.enterDraining (i : SlotId) (e : Ending) (p : Part) : Part :=
  ((p.stepEnded i e).modSlot i fun s => { s with stage1 := false, silenceTimer := none }.dress).changeState i .draining

/-- The result of the grade computation is recorded (R117). -/
def Slot.recordGrade (g : Graded) (s : Slot) : Slot :=
  match s.disposition with
  | some _ => s
  | none => { s with disposition := some g.disposition, reason := g.reason, density := g.density }

/-- Steps 1 and 2 of the end of DRAINING (R30): the grade, and SLOT_GRADED. -/
def Part.gradeSlot (i : SlotId) (p : Part) : Part :=
  let q := p.modSlot i (·.recordGrade (p.graded i))
  let s := q.slot i
  q.raise (.slotGraded i s.recipe s.retests s.disposition s.reason s.density)

/-- The retest decision (R121): the recipe of the retest that is taken. -/
def Part.retestRecipe (p : Part) (i : SlotId) : Option (Fin 16) :=
  match (p.slot i).disposition with
  | none => none
  | some d =>
    if d = 8 then none
    else
      match p.tables.bins[d].retest with
      | none => none
      | some r =>
        if 0 < p.tables.recipes[r].count ∧ (p.slot i).retests < p.tables.rack.retestMax then some r else none

/-- A slot in no step enters RUNNING at step 0 of its recipe (R26, R30): the step entry event with its item 5 (R55), and SLOT_STATE, which comes after the STEP_ENDED of each step that ended at its entry (R19, R63). The answer says, as that of `chain`, whether the recipe's last step ended at its entry; the STEP_ENDED of that one belongs to DRAINING entry. -/
def Part.enterSteps (i : SlotId) (p : Part) : Part × Bool :=
  let c := ((p.modSlot i (·.into .running)).stepEnter i 0).chain i (p.stepCount i + 1)
  (c.1.raise (.slotState i (p.slot i).state .running), c.2)

/-- Retest entry (R30): the result and the accumulators are cleared, and step 0 of the retest recipe is entered. -/
def Part.enterRetest (i : SlotId) (r : Fin 16) (p : Part) : Part × Bool :=
  (p.modSlot i fun s =>
      { s with retests := s.retests + 1, acc := .zero, shortfall := 0, disposition := none, reason := .none,
               density := none, recipe := some r }).enterSteps i

/-- The end of DRAINING without a retest (R30): a lane recovery in progress stops (R86), and the slot enters SPINDOWN. -/
def Part.leaveDraining (i : SlotId) (p : Part) : Part := (p.modSlot i Slot.openLane).enterSpindown i

/-- The end of DRAINING (R30). A retest recipe whose every step ends at entry comes back to DRAINING with an empty list; the retest maximum bounds that (R121). -/
def Part.endDraining (i : SlotId) : Nat → Part → Part
  | 0, p => (p.gradeSlot i).leaveDraining i
  | k + 1, p =>
    let q := p.gradeSlot i
    match q.retestRecipe i with
    | none => q.leaveDraining i
    | some r =>
      let c := q.enterRetest i r
      if c.2 then Part.endDraining i k (c.1.enterDraining i .dwellReached) else c.1

/-- DRAINING ends if the outstanding list is empty (R30). -/
def Part.drainCheck (i : SlotId) (p : Part) : Part :=
  if (p.slot i).state = .draining ∧ (p.slot i).outstanding = [] then
    p.endDraining i (p.tables.rack.retestMax - (p.slot i).retests)
  else p

/-- Where item 5 of a step entry leaves the slot (R55): in the step it stopped at, or in DRAINING when the recipe's last step ended at its entry. -/
def Part.afterChain (i : SlotId) (c : Part × Bool) : Part :=
  if c.2 then (c.1.enterDraining i .dwellReached).drainCheck i else c.1

/-- Item 5 of a step entry made in RUNNING or CONDEMNED (R55): zero-dwell steps end at once, the last one into DRAINING. -/
def Part.settle (i : SlotId) (p : Part) : Part := Part.afterChain i (p.chain i (p.stepCount i + 1))

/-- A step ends by its advance condition or its time limit (R60). -/
def Part.endStep (i : SlotId) (e : Ending) (p : Part) : Part :=
  if (p.slot i).state = .running ∧ p.atLastStep i = false then
    ((p.stepEnded i e).stepEnter i ((p.slot i).stepIndex + 1)).settle i
  else (p.enterDraining i e).drainCheck i

/-! ### Early ends (R31, R32) -/

/-- What ends a test early: the status of its entries, the disposition and the reason (R32, R33). -/
structure Cause where
  status : Status
  disposition : Fin 9
  reason : Reason
deriving DecidableEq, Repr

/-- A current fault (R32). -/
def Cause.powerFault : Cause := ⟨.powerLost, 7, .powerFault⟩
/-- A lane that is not recovered (R32). -/
def Cause.unresponsive : Cause := ⟨.aborted, 7, .unresponsive⟩
/-- A zone trip (R32). -/
def Cause.overtemp : Cause := ⟨.aborted, 7, .overtemp⟩
/-- The silence watchdog's second expiry (R32). -/
def Cause.silent : Cause := ⟨.aborted, 8, .silent⟩
/-- An eject hold expiry (R33, R170). -/
def Cause.operator : Cause := ⟨.aborted, 8, .operator⟩
/-- ABORT_SLOT with RETURN (R34). -/
def Cause.serverReturn : Cause := ⟨.aborted, 8, .serverReturn⟩
/-- ABORT_SLOT with REJECT (R34). -/
def Cause.serverReject : Cause := ⟨.aborted, 7, .serverReject⟩

/-- Steps 3 to 5 of R31 in the slot's record: the lane OPEN, every test timer stopped, the pair recorded and the retry flag cleared. -/
def Slot.endEarly (c : Cause) (s : Slot) : Slot :=
  { s.openLane with noShowTimer := none, silenceTimer := none, stage1 := false, spinupTimer := none, retry := false }.record
    c.disposition c.reason

/-- The spin-up count after a slot leaves SPINUP (R127). -/
def Part.leaveSpinup (was : SlotState) (p : Part) : Part :=
  if was = .spinup then { p with spinCount := p.spinCount - 1 } else p

/-- A slot in a powered state is ended early (R31); one that leaves SPINUP makes an occasion for a grant (R130). -/
def Part.endEarly (i : SlotId) (c : Cause) (p : Part) : Part :=
  let was := (p.slot i).state
  let p1 := ((p.completeOpen i c.status).modSlot i fun s => { s with outstanding := [] }).sendReset i
  ((((p1.modSlot i fun s => (s.endEarly c).dress).leaveSpinup was).enterSpindown i)).when (was == .spinup) Part.grants

/-- A cause taken in any state: it acts where R32 says, and has no effect elsewhere. -/
def Part.endIn (acts : SlotState → Bool) (i : SlotId) (c : Cause) (p : Part) : Part :=
  if acts (p.slot i).state then p.endEarly i c else p

/-- An abort event (R33). -/
def Part.abort (i : SlotId) (c : Cause) (p : Part) : Part :=
  if (p.slot i).state = .powerWait then
    ((p.leaveQueue i).modSlot i fun s => { s with retry := false }.record c.disposition c.reason).enterToteWait i
  else p.endIn SlotState.powered i c

/-! ### No-shows (R27) -/

/-- A no-show taken in IDENT (R27). -/
def Part.noShow (i : SlotId) (p : Part) : Part :=
  let p1 := (p.modSlot i fun s => { s with outstanding := [], noShowTimer := none }).sendReset i
  (p1.modSlot i fun s =>
    if s.retry then ({ s.openLane with retry := false }).record 7 .noShow else { s.openLane with retry := true }).enterSpindown i

/-! ### Condemnation (R28, R65) -/

/-- Is the recipe's last step a cooldown step (R52)? -/
def Part.lastIsCooldown (p : Part) (i : SlotId) : Bool :=
  match p.stepAt i (p.stepCount i - 1) with
  | none => false
  | some st => st.cooldown

/-- Where a condemned slot goes (R28, R65): from RUNNING to the cooldown step not yet reached, or to DRAINING; elsewhere it stays. -/
def Part.moveCondemned (i : SlotId) (p : Part) : Part :=
  if (p.slot i).state = .running then
    if p.lastIsCooldown i = true ∧ (p.slot i).stepIndex ≠ p.stepCount i - 1 then
      (((p.stepEnded i .condemned).stepEnter i (p.stepCount i - 1)).changeState i .condemned).settle i
    else (p.enterDraining i .condemned).drainCheck i
  else p

/-- The Slot Engine takes a condemnation (R28), with U as it stands. -/
def Part.condemn (i : SlotId) (p : Part) : Part :=
  ((p.modSlot i (·.record 7 .condemnedUncorrectable)).raise (.slotCondemned i (p.slot i).acc.u)).moveCondemned i

/-! ### Presence loss (R38) -/

/-- DRIVE_PULLED for a slot as it stands (R38). -/
def Part.drivePulled (i : SlotId) (p : Part) : Part :=
  let s := p.slot i
  p.raise (.drivePulled i s.state s.disposition s.reason (s.identity.map (·.serial)))

/-- What is done for the state left before EMPTY, with its notice (R38). -/
def Part.lossEffects (i : SlotId) (p : Part) : Part :=
  match (p.slot i).state with
  | .empty => p
  | .seated => p.drivePulled i
  | .powerWait => (p.leaveQueue i).drivePulled i
  | .spinup => (p.leaveSpinup .spinup).drivePulled i
  | .ident => (p.completeOpen i .removed).drivePulled i
  | .running => (p.completeOpen i .removed).drivePulled i
  | .condemned => (p.completeOpen i .removed).drivePulled i
  | .draining => (p.completeOpen i .removed).drivePulled i
  | .spindown => p.drivePulled i
  | .toteWait => p.stray i
  | .unloadReady => p.place i

/-- A slot enters EMPTY (R17), SLOT_STATE after the notices of the change (R19), and its offer if it was at work (R145). -/
def Part.enterEmpty (i : SlotId) (p : Part) : Part :=
  (p.modSlot i fun s => { s with outstanding := [] }.atEmpty.into s.state).changeState i .empty

/-- A presence loss taken in a state other than EMPTY (R38). -/
def Part.loseDrive (i : SlotId) (p : Part) : Part :=
  let was := (p.slot i).state
  ((((p.lossEffects i).cutCommand i).cutReset i).enterEmpty i).when (was == .spinup) Part.grants

/-! ### Seating (R21, R22, R45) -/

/-- May the slot be seated: EMPTY, enabled, and its debounced presence PRESENT? -/
def Part.seatable (p : Part) (i : SlotId) : Bool := (p.slot i).state == .empty && p.enabled i && p.present i

/-- A slot enters SEATED and raises SLOT_SEATED, with no SLOT_STATE: the end of LOADING and the rack reset (R19). -/
def Part.seatQuietly (i : SlotId) (p : Part) : Part := (p.modSlot i (·.into .seated)).raise (.slotSeated i)

/-- A slot enters SEATED, raising SLOT_SEATED and then SLOT_STATE (R19, R21). -/
def Part.seat (i : SlotId) (p : Part) : Part := (p.raise (.slotSeated i)).changeState i .seated

/-! ### Zone trips (R153) -/

/-- Zone trips are delivered to the zone's four slots, in an order the spec leaves open (R153). -/
def Part.tripZone (z : ZoneId) (p : Part) : Part :=
  p.eachFree (slotsOf z) fun i q => q.endIn SlotState.atWork i .overtemp

end Sys2Proof.Machine
end

