-- ==== Sys2Proof/Machine/Timing.lean ====
section
/-! DEFINITION. Time and the lines: the Time Base tick (R47 to R49), the slot's 1 s tick and the life of a step on it (R18, R56 to R62), and the debounced presence, eject and door lines (R20, R21, R38, R169, R171, R172). -/

namespace Sys2Proof.Machine

/-! ### The Time Base tick (R47, R49) -/

/-- The command timer of an entry counts a 100 ms tick (R49). -/
def Entry.tick (e : Entry) : Entry :=
  match e.state with
  | .issued t o => { e with state := .issued t (tickTimer o) }
  | .queued => e
  | .done => e

/-- A slot's timers of 1 ms resolution count (R49). -/
def Slot.tick1 (s : Slot) : Slot := { s with presence := s.presence.tick, eject := s.eject.tick }

/-- A slot's command timers count a 100 ms tick (R49). -/
def Slot.tick100 (s : Slot) : Slot := { s with outstanding := s.outstanding.map Entry.tick }

/-- A slot's timers of 1 s resolution count (R49), and the Slot Engine has one more 1 s tick to take (log entry 4). -/
def Slot.tickSecond (s : Slot) : Slot :=
  { s with
    noShowTimer := tickTimer s.noShowTimer
    silenceTimer := tickTimer s.silenceTimer
    recoveryTimer := tickTimer s.recoveryTimer
    holdTimer := tickTimer s.holdTimer
    spinupTimer := tickTimer s.spinupTimer
    spindownTimer := tickTimer s.spindownTimer
    ticksDue := s.ticksDue + 1 }

/-- A zone's alarm timer counts a 1 s tick (R49). -/
def Zone.tickSecond (z : Zone) : Zone :=
  match z.alarm with
  | .running t => { z with alarm := .running t.tick }
  | .stopped => z
  | .expired => z

/-- A heater period begins: the heater drive output takes up the heater duty (R147; log entry 33). -/
def Zone.beginPeriod (z : Zone) : Zone := { z with heldDuty := z.duty }

/-- The bus address of the sensor of a zone (R142). -/
def sensorAddress (z : ZoneId) : BitVec 7 := Config.sensorBase + BitVec.ofNat 7 z.val

/-- A sensor read of a zone begins (R142); the tick that finds 49 counted is the fiftieth (log entry 12). -/
def beginRead (z : ZoneId) : BusRead := ⟨z, sensorAddress z, .temperature, .start (Config.sensorReadBound - 1)⟩

/-- The counts of the Time Base (R47). -/
def Part.advance (p : Part) : Part :=
  if 999 ≤ p.ms then { p with ms := 0, seconds := p.seconds + 1 } else { p with ms := p.ms + 1 }

/-- The loader's timing of its transfers counts a 1 ms tick, as long as it has transfers to make (R197, R198). -/
def Loader.tick (l : Loader) : Loader :=
  match l.phase with
  | .loading => { l with counted := l.counted + 1 }
  | .ready => l

/-- What every 1 ms tick counts. -/
def Part.count1 (p : Part) : Part :=
  { p.modAllSlots Slot.tick1 with
    loader := p.loader.tick
    door := p.door.tick
    busRead := p.busRead.map fun b => { b with timer := b.timer.tick } }

/-- What a 100 ms tick counts, and the heater period it begins in every zone (R147). -/
def Part.count100 (p : Part) : Part :=
  { p.modAllSlots Slot.tick100 with zones := mapV Zone.beginPeriod p.zones }

/-- What a 1 s tick counts, and the round of sensor reads it begins in READY (R142). -/
def Part.countSecond (p : Part) : Part :=
  { p.modAllSlots Slot.tickSecond with
    zones := mapV Zone.tickSecond p.zones
    busRead := if p.loader.phase = .ready ∧ p.busRead = none then some (beginRead 0) else p.busRead }

/-- TIME_BASE_TICK (R47): the counts advance, and every running timer counts the ticks of its resolution; the timers' expiries are commands of their own. -/
def Part.tick (p : Part) : Part :=
  let q := p.advance.count1
  let q1 := q.when (q.ms % 100 == 0) Part.count100
  q1.when (q.ms == 0) Part.countSecond

/-! ### The slot's 1 s tick (R18, R56 to R62) -/

/-- The band check of a step (R58). -/
def StepEntry.inBand (st : StepEntry) (t : Int) : Bool :=
  st.tolerance == 0 || st.setPoint == 0 ||
    (decide (st.setPoint - st.tolerance ≤ t) && decide (t ≤ st.setPoint + st.tolerance))

/-- The hold conditions of a slot's step (R57). -/
def Part.accrues (p : Part) (i : SlotId) (st : StepEntry) : Bool :=
  let z := p.zone (zoneOf i)
  !p.door.value && !(p.slot i).stage1 && (z.state == .regulating || z.state == .idle) &&
    (match z.temperature with
     | none => false
     | some t => st.inBand t)

/-- How a step ends on a tick, if its advance condition is met (R59). -/
def StepEntry.metOnTick (st : StepEntry) (dwell : Nat) (done : Bool) : Option Ending :=
  match st.advance with
  | .dwell => if st.dwell ≤ dwell then some .dwellReached else none
  | .server => none
  | .both => if st.dwell ≤ dwell ∧ done then some .bothMet else none

/-- Has the step's time limit expired on a tick that finds this elapsed count (R56, item 1)? -/
def StepEntry.limitReached (st : StepEntry) (elapsed : Nat) : Bool := st.limit != 0 && elapsed == st.limit

/-- A step is forced to end by its time limit (R62). -/
def Part.forceStep (i : SlotId) (st : StepEntry) (p : Part) : Part :=
  let s := p.slot i
  let short := st.advance != .server && decide (s.dwell < st.dwell)
  let late := st.advance == .server || (st.advance == .both && !s.stepDone)
  let q := p.when short fun q => q.modSlot i fun x =>
    { x with shortfall := satAdd 255 x.shortfall 1 }.latch fun c => { c with shortfall := true }
  (q.raise (.stepForced i s.recipe s.stepIndex short late s.elapsed s.dwell (q.slot i).shortfall)).endStep i .forced

/-- Items 2 and 3 of R56 in the slot's record. -/
def Slot.countStep (accrue : Bool) (s : Slot) : Slot :=
  { s with elapsed := inc16 s.elapsed, dwell := if accrue then s.dwell + 1 else s.dwell }

/-- Item 4 of R56: the step ends if its advance condition is met. -/
def Part.advanceStep (i : SlotId) (st : StepEntry) (p : Part) : Part :=
  match st.metOnTick (p.slot i).dwell (p.slot i).stepDone with
  | none => p
  | some e => p.endStep i e

/-- The current step on a 1 s tick (R56). -/
def Part.stepTick (i : SlotId) (p : Part) : Part :=
  match p.currentStep i with
  | none => p
  | some st =>
    if st.limitReached (p.slot i).elapsed then p.forceStep i st
    else (p.modSlot i (·.countStep (p.accrues i st && decide ((p.slot i).dwell < st.dwell)))).advanceStep i st

/-- Test seconds count a 1 s tick while the test runs (R18). -/
def Slot.countTest (s : Slot) : Slot :=
  { s with ticksDue := s.ticksDue - 1, testSeconds := if s.state.testing then inc32 s.testSeconds else s.testSeconds }

/-- The slot's 1 s tick (R18, R56): the Slot Engine takes one that the Time Base has made. -/
def Part.slotSecond (i : SlotId) (p : Part) : Part :=
  if (p.slot i).ticksDue = 0 then p
  else
    let q := p.modSlot i Slot.countTest
    q.when (q.slot i).state.stepping (Part.stepTick i)

/-- Does the slot's next 1 s tick find its step at its time limit (R56, item 1)? -/
def Part.atLimit (p : Part) (i : SlotId) : Bool :=
  (p.slot i).state.stepping &&
    (match p.currentStep i with
     | none => false
     | some st => st.limitReached (p.slot i).elapsed)

/-- STEP_TIME_LIMIT_EXPIRY (R62): the slot's 1 s tick that finds the time limit reached. -/
def Part.stepLimit (i : SlotId) (p : Part) : Part := p.when (p.atLimit i) (Part.slotSecond i)

/-! ### Lines -/

/-- PRESENCE_LINE_CHANGE (R20). -/
def Part.presenceLine (i : SlotId) (level : Bool) (p : Part) : Part :=
  p.modSlot i fun s => { s with presence := s.presence.line Config.slowDebounce level }

/-- EJECT_LINE_CHANGE (R169). -/
def Part.ejectLine (i : SlotId) (level : Bool) (p : Part) : Part :=
  p.modSlot i fun s => { s with eject := s.eject.line Config.ejectDebounce level }

/-- DOOR_LINE_CHANGE (R171). -/
def Part.doorLine (level : Bool) (p : Part) : Part := { p with door := p.door.line Config.slowDebounce level }

/-- PRESENCE_ARRIVAL (R20, R21). -/
def Part.arrival (i : SlotId) (p : Part) : Part :=
  if (p.slot i).presence.dueTo true then
    let q := p.modSlot i fun s => { s with presence := s.presence.settle }
    q.when (q.loader.phase == .ready && q.seatable i) (Part.seat i)
  else p

/-- PRESENCE_LOSS (R20, R38); a lane send in progress is dropped in EMPTY too (R76). -/
def Part.loss (i : SlotId) (p : Part) : Part :=
  if (p.slot i).presence.dueTo false then
    let q := p.modSlot i fun s => { s with presence := s.presence.settle }
    if (q.slot i).state = .empty then (q.cutCommand i).cutReset i else q.loseDrive i
  else p

/-- EJECT_PRESSED (R169). -/
def Part.ejectPress (i : SlotId) (p : Part) : Part :=
  if (p.slot i).eject.dueTo true then
    p.modSlot i fun s =>
      if s.hold = .idle then
        { s with eject := s.eject.settle, hold := .timing, holdTimer := some (.start p.tables.rack.ejectHold) }
      else { s with eject := s.eject.settle }
  else p

/-- EJECT_RELEASED (R169). -/
def Part.ejectRelease (i : SlotId) (p : Part) : Part :=
  if (p.slot i).eject.dueTo false then
    p.modSlot i fun s => { s with eject := s.eject.settle, hold := .idle, holdTimer := none }
  else p

/-- The door event (R172): DOOR_CHANGED, every zone judged, and on closing an occasion for a grant (R139). -/
def Part.doorEvent (p : Part) : Part :=
  if timerDue p.door.timer && p.door.raw != p.door.value then
    let q := ({ p with door := p.door.settle }).raise (.doorChanged p.door.raw)
    (q.each allZones Part.judgeZone).when (!p.door.raw) Part.grants
  else p

end Sys2Proof.Machine
end

