-- ==== Sys2Proof/Machine/Supervision.lean ====
section
/-! DEFINITION. Events at a slot and at a zone: windows (R25, R134, R166), current faults (R137), the silence watchdog (R162, R163), the eject hold (R170), lane answers and timeouts (R77 to R85), sensor reads and the alarm timer (R142, R153). -/

namespace Sys2Proof.Machine

/-! ### Power (chapter 7) -/

/-- The code of the lowest-index valid class-0 filter entry (R25). -/
def Part.probeCode (p : Part) : Option Byte :=
  (p.tables.filters.toList.find? fun f => f.valid && f.cls == 0).map (·.code)

/-- The identity probe (R88). -/
def probeEntry (code : Byte) : Entry :=
  { tag := probeTag, code, body := [], cls := 0, timeout := 0, slow := 0, coverage := false, scored := false,
    step := 255, state := .queued }

/-- IDENT entry (R25): the probe and the no-show window, or a no-show at once for want of a class-0 filter entry. -/
def Part.enterIdent (i : SlotId) (p : Part) : Part :=
  let q := p.changeState i .ident
  match p.probeCode with
  | none => q.noShow i
  | some code =>
    q.modSlot i fun s =>
      { s with outstanding := [probeEntry code], noShowTimer := some (.start p.tables.rack.noShowWindow) }.kick

/-- SPINUP_WINDOW_EXPIRY (R134): the count falls, the slot enters IDENT, and the freed place is an occasion for a grant. -/
def Part.spinupOver (i : SlotId) (p : Part) : Part :=
  if (p.slot i).state = .spinup ∧ timerDue (p.slot i).spinupTimer then
    (((p.leaveSpinup .spinup).modSlot i fun s => { s with spinupTimer := none }).enterIdent i).grants
  else p

/-- NO_SHOW_WINDOW_EXPIRY (R166). -/
def Part.noShowOver (i : SlotId) (p : Part) : Part :=
  if (p.slot i).state = .ident ∧ timerDue (p.slot i).noShowTimer then p.noShow i else p

/-- SPINDOWN_WAIT_EXPIRY (R36). -/
def Part.spindownExpiry (i : SlotId) (p : Part) : Part :=
  if (p.slot i).state = .spindown ∧ timerDue (p.slot i).spindownTimer then p.spindownOver i else p

/-- CURRENT_FAULT (R137, R138): acted on only while the power enable line is on. -/
def Part.currentFault (i : SlotId) (p : Part) : Part :=
  if (p.slot i).power then p.endIn SlotState.powered i .powerFault else p

/-! ### The silence watchdog (R162, R163) -/

/-- SILENCE_WARNING with the fields R162 gives. -/
def Part.silenceWarning (i : SlotId) (ended : Bool) (p : Part) : Part :=
  p.raise (.silenceWarning i (p.slot i).recipe (p.slot i).stepIndex (p.interval i) ended)

/-- Is the silence timer due in a state and stage? -/
def Part.silenceDue (p : Part) (i : SlotId) (stage1 : Bool) : Bool :=
  (p.slot i).state.stepping && (p.slot i).stage1 == stage1 && timerDue (p.slot i).silenceTimer

/-- SILENCE_FIRST_EXPIRY (R162). -/
def Part.silenceFirst (i : SlotId) (p : Part) : Part :=
  if p.silenceDue i false then
    (p.modSlot i fun s =>
      ({ s with stage1 := true, silenceTimer := watchdog (p.interval i) }.latch fun c =>
        { c with silenceWarned := true }).dress).silenceWarning i false
  else p

/-- SILENCE_SECOND_EXPIRY (R163). -/
def Part.silenceSecond (i : SlotId) (p : Part) : Part :=
  if p.silenceDue i true then (p.silenceWarning i true).endEarly i .silent else p

/-- EJECT_HOLD_EXPIRY (R170). -/
def Part.holdOver (i : SlotId) (p : Part) : Part :=
  if (p.slot i).hold = .timing ∧ timerDue (p.slot i).holdTimer then
    (p.modSlot i fun s => { s with hold := .spent, holdTimer := none }).abort i .operator
  else p

/-! ### Lane answers (R78, R26) -/

/-- Identification ends (R26, R106): the identity is captured and step 0 entered. -/
def Part.identified (i : SlotId) (d : Identity) (p : Part) : Part :=
  let q := (p.modSlot i fun s =>
    { s with identity := some d, outstanding := s.outstanding.filter (fun e => !e.isProbe), noShowTimer := none,
             retry := false }).raise (.driveIdentified i d)
  Part.afterChain i (q.enterSteps i)

/-- The probe's completion in IDENT (R26): a good one with an identity, or a no-show. -/
def Part.probeAnswer (i : SlotId) (m : CompletionMsg) (p : Part) : Part :=
  match m.identity with
  | none => p.noShow i
  | some d => if m.status = .good ∨ m.status = .corrected then p.identified i d else p.noShow i

/-- What an entry's completion hands to the Score Unit (R93). -/
def Entry.handing (st : Status) (delta coverage latency : Nat) (e : Entry) : Handing :=
  { status := st, delta, coverage, latency, cls := e.cls, covers := e.coverage, scored := e.scored, slow := e.slow,
    step := e.step }

/-- A drive's completion matched to a server's entry issued at `t` (R78): measured, handed, DONE, appended; then the condemnation it may cause (R104). -/
def Part.matched (i : SlotId) (e : Entry) (t : Time) (m : CompletionMsg) (p : Part) : Part :=
  let lat := elapsedMs t p.now
  let h := p.hand i (e.handing (.drive m.status) m.delta m.coverage lat)
  let q := (h.1.modSlot i fun s => { s with outstanding := setEntry e.tag Entry.finish s.outstanding }).pushCompletion
    (e.drivenCompletion i m lat)
  q.when h.2 (Part.condemn i)

/-- A COMPLETION at its Slot Engine (R78): matched by tag to an ISSUED entry, or an orphan (R79). -/
def Part.takeCompletion (i : SlotId) (m : CompletionMsg) (p : Part) : Part :=
  match (p.slot i).outstanding.find? fun e => e.tag == m.tag && e.isIssued with
  | none => p.orphan i
  | some e =>
    match e.state with
    | .queued => p.orphan i
    | .done => p.orphan i
    | .issued t _ =>
      if e.isProbe then
        if (p.slot i).state = .ident then p.probeAnswer i m else p.orphan i
      else p.matched i e t m

/-- LANE_COMPLETION (R78): a unit that passes as a COMPLETION. -/
def Part.laneCompletion (i : SlotId) (unit : List Byte) (p : Part) : Part :=
  match judgeUnit unit with
  | .completion m => p.takeCompletion i m
  | .dropped => p
  | .ready => p

/-- LANE_MESSAGE_DROPPED (R77): a unit that does not pass. -/
def Part.laneDropped (i : SlotId) (unit : List Byte) (p : Part) : Part :=
  p.when (judgeUnit unit == .dropped) (Part.laneError i)

/-- A LANE_RECOVERY notice with the slot's recoveries count (R82 to R85). -/
def Part.laneNotice (i : SlotId) (o : RecoveryOutcome) (tag : Byte) (p : Part) : Part :=
  p.raise (.laneRecovery i o tag (p.slot i).recoveries)

/-- LANE_READY (R84). -/
def Part.laneReady (i : SlotId) (p : Part) : Part :=
  if (p.slot i).lane = .recovering then (p.modSlot i fun s => s.openLane.kick).laneNotice i .recovered 0 else p

/-! ### Timeouts and lane recovery (R82, R83, R85) -/

/-- Steps 3 to 6 of R82: the other entries ABORTED, RESET_LANE, the lane RECOVERING, the window, and the notice. -/
def Part.startRecovery (i : SlotId) (tag : Byte) (p : Part) : Part :=
  (((p.completeOpen i .aborted).sendReset i).modSlot i fun s =>
    { s with lane := .recovering, recoveries := s.recoveries + 1,
             recoveryTimer := some (.start p.tables.rack.recoveryWindow) }.latch fun c =>
      { c with laneRecovered := true }).laneNotice i .started tag

/-- A command timer's expiry for an entry (R82, R83). -/
def Part.timedOut (i : SlotId) (e : Entry) (p : Part) : Part :=
  let q := (p.modSlot i fun s => { s with outstanding := setEntry e.tag Entry.finish s.outstanding }).pushCompletion
    (e.madeCompletion i .timeout)
  let h := q.hand i (e.handing .timeout 0 0 0)
  let q1 := h.1.when h.2 (Part.condemn i)
  if q1.tables.rack.recoveryMax ≤ (q1.slot i).recoveries then (q1.laneNotice i .exhausted e.tag).endEarly i .unresponsive
  else q1.startRecovery i e.tag

/-- Is the entry ISSUED with its command timer due? -/
def Entry.timerDue (e : Entry) : Bool :=
  match e.state with
  | .issued _ o => Machine.timerDue o
  | .queued => false
  | .done => false

/-- COMMAND_TIMEOUT (R82). -/
def Part.commandTimeout (i : SlotId) (tag : Byte) (p : Part) : Part :=
  if (p.slot i).state.atWork then
    match (p.slot i).outstanding.find? fun e => e.tag == tag && e.timerDue with
    | none => p
    | some e => p.timedOut i e
  else p

/-- LANE_RECOVERY_WINDOW_EXPIRY (R85). -/
def Part.recoveryOver (i : SlotId) (p : Part) : Part :=
  if (p.slot i).lane = .recovering ∧ timerDue (p.slot i).recoveryTimer then
    ((p.modSlot i fun s => { s with recoveryTimer := none }).laneNotice i .failed 0).endIn SlotState.atWork i .unresponsive
  else p

/-! ### Sensor reads and the alarm timer (R142, R143, R153) -/

/-- The read after zone `z`'s (R142): the next zone's, or the end of the round. -/
def nextRead (z : ZoneId) : Option BusRead :=
  if h : z.val + 1 < 6 then some (beginRead ⟨z.val + 1, h⟩) else none

/-- The end of a read is the zone's sample (R142, R143); a tripped zone's trips are delivered again (R153). -/
def Part.sampleEnd (z : ZoneId) (a : SensorAnswer) (p : Part) : Part :=
  let q := ({ p with busRead := nextRead z }).sampleZone z a
  q.when ((q.zone z).alarm == .expired) (Part.tripZone z)

/-- SENSOR_SAMPLE (R143): the read in progress ends with an answer. -/
def Part.sensorSample (a : SensorAnswer) (p : Part) : Part :=
  match p.busRead with
  | none => p
  | some b => p.sampleEnd b.zone a

/-- SENSOR_READ_TIMEOUT (R142): the read in progress has not ended in 50 ms. -/
def Part.sensorTimeout (p : Part) : Part :=
  match p.busRead with
  | none => p
  | some b => if b.timer.due then p.sampleEnd b.zone .noAnswer else p

/-- Is the zone's alarm timer running and due? -/
def Zone.alarmDue (z : Zone) : Bool :=
  match z.alarm with
  | .running t => t.due
  | .stopped => false
  | .expired => false

/-- ALARM_TIMER_EXPIRY (R153): TRIPPED is raised, the state judged (R146), and the trips delivered. -/
def Part.alarmOver (z : ZoneId) (p : Part) : Part :=
  if (p.zone z).alarmDue then
    (((p.modZone z fun q => { q with alarm := .expired }).drawn fun k =>
      .zoneAlarm z .tripped (p.zone z).temperature (Config.unstatedHardLimit k) (Config.unstatedTripped k)).judgeZone
        z).tripZone z
  else p

end Sys2Proof.Machine
end

