-- ==== Sys2Proof/Machine/Tables.lean ====
section
/-! DEFINITION. LOAD_ENTRY: the checks, the clamping and the storing of an entry of each table (R8, and the owner rules R22, R50, R51, R54, R67, R68, R83, R85, R108, R122, R132, R133, R135, R156, R166, R169, R174, R175, R176, R192, R200; layouts of Table 12-4). -/

namespace Sys2Proof.Machine

/-! ### Entries from their bytes, before clamping (Table 12-4) -/

/-- A number reduced into the numbers below `n + 1`; the range checks come first, so nothing is lost. -/
def finN (n a : Nat) : Fin (n + 1) := Fin.ofNat (n + 1) a

/-- A class entry as loaded. -/
def rawClass (c : List Byte) : ClassEntry :=
  { timeout := field c 0 2, slow := field c 2 2, coverage := field c 4 1 == 1, scored := field c 5 1 == 1 }

/-- A filter entry as loaded. -/
def rawFilter (c : List Byte) : FilterEntry :=
  { valid := field c 0 1 == 1, code := byte (field c 1 1), cls := finN 7 (field c 2 1) }

/-- A recipe entry as loaded. -/
def rawRecipe (c : List Byte) : RecipeEntry :=
  { first := field c 0 1, count := field c 1 1, limit := finN 7 (field c 2 1) }

/-- The advance mode of a code (R51). -/
def advanceOf (n : Nat) : Advance := if n = 0 then .dwell else if n = 1 then .server else .both

/-- A step entry as loaded. -/
def rawStep (c : List Byte) : StepEntry :=
  { cooldown := field c 0 1 == 1, mask := byte (field c 1 1), setPoint := signedField c 2, tolerance := field c 4 1,
    ramp := field c 5 1, dwell := field c 6 2, advance := advanceOf (field c 8 1), limit := field c 9 2,
    silence := field c 11 2, scoring := field c 13 1 == 1 }

/-- A limit set entry as loaded. -/
def rawLimit (c : List Byte) : LimitSet :=
  { wu := field c 0 1, wr := field c 1 1, wc := field c 2 1, wf := field c 3 1, ws := field c 4 1,
    t1 := field c 5 2, t2 := field c 7 2, t3 := field c 9 2, t4 := field c 11 2, t5 := field c 13 2,
    t6 := field c 15 2, vmin := field c 17 4, cap := field c 21 2, bt := field c 23 1, p := field c 24 2 }

/-- The colour of a code (R174). -/
def colourOf (n : Nat) : Colour := if n = 0 then .off else if n = 1 then .green else if n = 2 then .amber else .both

/-- The blink of a code (R174). -/
def blinkOf (n : Nat) : Blink := if n = 0 then .steady else if n = 1 then .hz1 else if n = 2 then .hz2 else .hz8

/-- A bin entry as loaded; an absent retest recipe is absent whatever stands in its field (R174). -/
def rawBin (c : List Byte) : BinEntry :=
  { tote := finN 7 (field c 0 1), colour := colourOf (field c 1 1), blink := blinkOf (field c 2 1),
    retest := if field c 3 1 = 1 then some (finN 15 (field c 4 1)) else none }

/-- The rack settings as loaded. The hard limit is read as an unsigned field, though it is a temperature: Table 12-4 marks only the set-point signed (log entry 34: the model's choice). -/
def rawRack (c : List Byte) : RackSettings :=
  { trunkType := BitVec.ofNat 16 (field c 0 2), enables := slotSetAt c 2, budget := field c 5 1,
    spinupWindow := field c 6 1, spindownWait := field c 7 1, recoveryMax := field c 8 1,
    recoveryWindow := field c 9 1, retestMax := field c 10 1, hardLimit := field c 11 2, tripTime := field c 13 2,
    kp := field c 15 1, ki := field c 16 1, imax := field c 17 2, fanBase := field c 19 1, fanBand := field c 20 1,
    noShowWindow := field c 21 2, ejectHold := field c 23 1 }

/-! ### Clamping -/

/-- R67. -/
def ClassEntry.clamp (e : ClassEntry) : ClassEntry :=
  { e with timeout := clampN 1 6000 e.timeout, slow := clampN 1 65535 e.slow }

/-- A set-point in its stored range (R51): 0, or 40–170. -/
def clampSetPoint (x : Int) : Int := if x = 0 then 0 else clampZ 40 170 x

/-- R51. -/
def StepEntry.clamp (e : StepEntry) : StepEntry :=
  { e with
    setPoint := clampSetPoint e.setPoint
    tolerance := clampN 0 40 e.tolerance
    ramp := clampN 1 40 e.ramp
    limit := if e.limit ≠ 0 ∧ e.limit < e.dwell then e.dwell else e.limit
    silence := clampN 0 3600 e.silence }

/-- R108. -/
def LimitSet.clamp (e : LimitSet) : LimitSet := { e with bt := clampN 0 7 e.bt, p := clampN 0 1000 e.p }

/-- A capacity in its stored range (R175): at most 60, and never below the fill. -/
def clampCapacity (fill cap : Nat) : Nat := max fill (min 60 cap)

/-- R83, R85, R122, R132, R133, R135, R156, R166, R169. -/
def RackSettings.clamp (e : RackSettings) : RackSettings :=
  { e with
    budget := clampN 1 8 e.budget
    spinupWindow := clampN 2 60 e.spinupWindow
    spindownWait := clampN 0 120 e.spindownWait
    recoveryMax := clampN 0 15 e.recoveryMax
    recoveryWindow := clampN 1 120 e.recoveryWindow
    retestMax := clampN 0 3 e.retestMax
    hardLimit := clampN 100 200 e.hardLimit
    tripTime := clampN 10 600 e.tripTime
    kp := clampN 0 63 e.kp
    ki := clampN 0 63 e.ki
    imax := clampN 0 4096 e.imax
    fanBase := clampN 0 100 e.fanBase
    fanBand := clampN 0 40 e.fanBand
    noShowWindow := clampN 5 300 e.noShowWindow
    ejectHold := clampN 1 10 e.ejectHold }

/-! ### Tables by number (Table 1-4, Table 12-4) -/

/-- The tables LOAD_ENTRY reaches. -/
inductive Table where
  | classTable | filter | recipe | step | limitSet | bin | toteSettings | noticeLevel | rackSettings
deriving DecidableEq, Repr

/-- The table of a number below 9 (Table 1-4). -/
def tableOf (n : Nat) : Option Table :=
  match n with
  | 0 => some .classTable
  | 1 => some .filter
  | 2 => some .recipe
  | 3 => some .step
  | 4 => some .limitSet
  | 5 => some .bin
  | 6 => some .toteSettings
  | 7 => some .noticeLevel
  | 8 => some .rackSettings
  | _ => none

/-- The size of a table's entry (Table 12-4). -/
def Table.size : Table → Nat
  | .classTable => 6
  | .filter => 3
  | .recipe => 3
  | .step => 14
  | .limitSet => 26
  | .bin => 5
  | .toteSettings => 1
  | .noticeLevel => 1
  | .rackSettings => 24

/-- The number of entries of a table (Table 1-4). -/
def Table.entries : Table → Nat
  | .classTable => 8
  | .filter => 64
  | .recipe => 16
  | .step => 128
  | .limitSet => 8
  | .bin => 9
  | .toteSettings => 8
  | .noticeLevel => 18
  | .rackSettings => 1

/-! ### In-use checks (R22, R54) -/

/-- Does some slot reference the recipe? -/
def Part.recipeInUse (p : Part) (k : Nat) : Bool :=
  allSlots.any fun i => (p.slot i).references && ((p.slot i).recipe.map (·.val)) == some k

/-- Does some slot reference the step entry through its recipe? -/
def Part.stepInUse (p : Part) (k : Nat) : Bool :=
  allSlots.any fun i => (p.slot i).references &&
    (match p.recipeOf i with
     | none => false
     | some r => decide (r.first ≤ k) && decide (k < r.first + r.count))

/-- Does some slot reference the limit set through its recipe? -/
def Part.limitInUse (p : Part) (k : Nat) : Bool :=
  allSlots.any fun i => (p.slot i).references &&
    (match p.recipeOf i with
     | none => false
     | some r => r.limit.val == k)

/-- Does an enable set clear the flag of a slot that is neither EMPTY nor SEATED (R22)? -/
def Part.enablesInUse (p : Part) (set : BitVec 24) : Bool :=
  allSlots.any fun i => p.enabled i && !set[i] && (p.slot i).state != .empty && (p.slot i).state != .seated

/-- The owner chapter's in-use check (R8, step 5). -/
def Part.inUse (p : Part) (t : Table) (k : Nat) (c : List Byte) : Bool :=
  match t with
  | .recipe => p.recipeInUse k
  | .step => p.stepInUse k
  | .limitSet => p.limitInUse k
  | .rackSettings => p.enablesInUse (slotSetAt c 2)
  | .classTable | .filter | .bin | .toteSettings | .noticeLevel => false

/-! ### Value checks (R8, steps 6 and 7) -/

/-- Do the thresholds decrease anywhere (R108)? -/
def LimitSet.decreasing (l : LimitSet) : Bool :=
  decide (l.t2 < l.t1) || decide (l.t3 < l.t2) || decide (l.t4 < l.t3) || decide (l.t5 < l.t4) || decide (l.t6 < l.t5)

/-- The owner chapter's value checks: is some field refused? -/
def badValue (t : Table) (c : List Byte) : Bool :=
  match t with
  | .classTable => 1 < field c 4 1 || 1 < field c 5 1
  | .filter => 1 < field c 0 1 || 7 < field c 2 1
  | .recipe => 127 < field c 0 1 || 16 < field c 1 1 || 7 < field c 2 1 || 128 < field c 0 1 + field c 1 1
  | .step => 1 < field c 0 1 || 2 < field c 8 1 || 1 < field c 13 1
  | .limitSet => (rawLimit c).decreasing
  | .bin => 7 < field c 0 1 || 3 < field c 1 1 || 3 < field c 2 1 || 1 < field c 3 1 ||
      (field c 3 1 == 1 && decide (15 < field c 4 1))
  | .toteSettings => field c 0 1 == 0
  | .noticeLevel => false
  | .rackSettings => field c 0 2 < 0x0600

/-- Does another index of the filter table hold a valid entry with the code (R68)? -/
def Part.duplicateCode (p : Part) (k : Nat) (code : Byte) : Bool :=
  (p.tables.filters.toList.zipIdx).any fun x => x.1.valid && x.1.code == code && x.2 != k

/-- The filter table's code check (R8, step 7). -/
def Part.duplicate (p : Part) (t : Table) (k : Nat) (c : List Byte) : Bool :=
  match t with
  | .filter => field c 0 1 == 1 && p.duplicateCode k (byte (field c 1 1))
  | .classTable | .recipe | .step | .limitSet | .bin | .toteSettings | .noticeLevel | .rackSettings => false

/-! ### Storing (R8, step 8) -/

/-- A stored enable set acts on one slot (R22); a slot is seated only in READY (log entry 28). -/
def Part.enableChange (old : BitVec 24) (i : SlotId) (p : Part) : Part :=
  if old[i] && !p.enabled i && (p.slot i).state == .seated then p.enterEmpty i
  else if !old[i] && p.loader.phase == .ready && p.seatable i then p.seat i
  else p

/-- The rack settings are stored (R22, R132): the enable set acts, and a raised budget is an occasion for a grant. -/
def Part.storeRack (e : RackSettings) (p : Part) : Part :=
  let old := p.tables.rack
  ((p.modTables fun t => { t with rack := e }).eachFree allSlots (Part.enableChange old.enables)).when
    (decide (old.budget < e.budget)) Part.grants

/-- A capacity is stored, and acts on its tote (R176). -/
def Part.storeCapacity (t : ToteId) (cap : Nat) (p : Part) : Part :=
  (p.modTables fun x => { x with capacities := x.capacities.set t cap }).capacityChanged t cap

/-- The entry of a table at an index is stored, clamped; the answer says whether a field was clamped. -/
def Part.store (t : Table) (k : Nat) (c : List Byte) (p : Part) : Part × Bool :=
  match t with
  | .classTable =>
    let e := (rawClass c).clamp
    (p.modTables fun x => { x with classes := x.classes.set (finN 7 k) e }, e != rawClass c)
  | .filter => (p.modTables fun x => { x with filters := x.filters.set (finN 63 k) (rawFilter c) }, false)
  | .recipe => (p.modTables fun x => { x with recipes := x.recipes.set (finN 15 k) (rawRecipe c) }, false)
  | .step =>
    let e := (rawStep c).clamp
    (p.modTables fun x => { x with steps := x.steps.set (finN 127 k) e }, e != rawStep c)
  | .limitSet =>
    let e := (rawLimit c).clamp
    (p.modTables fun x => { x with limits := x.limits.set (finN 7 k) e }, e != rawLimit c)
  | .bin => (p.modTables fun x => { x with bins := x.bins.set (finN 8 k) (rawBin c) }, false)
  | .toteSettings =>
    let cap := clampCapacity (p.tote (finN 7 k)).fill (field c 0 1)
    (p.storeCapacity (finN 7 k) cap, cap != field c 0 1)
  | .noticeLevel =>
    let n := clampN 0 7 (field c 0 1)
    (p.modTables fun x => { x with levels := x.levels.set (finN 17 k) n }, n != field c 0 1)
  | .rackSettings =>
    let e := (rawRack c).clamp
    (p.storeRack e, e != rawRack c)

/-! ### LOAD_ENTRY (R8) -/

/-- The first refusal of R8 for a body, if any: steps 1 to 7 in their order. -/
def Part.loadRefusal (p : Part) (body : List Byte) : Option RespStatus :=
  let n := field body 0 1
  let k := field body 1 1
  let c := body.drop 2
  if 9 < n then some .badIndex
  else
    match tableOf n with
    | none => some .badRequest
    | some t =>
      if c.length ≠ t.size then some .badRequest
      else if t.entries ≤ k then some .badIndex
      else if p.inUse t k c then some .inUse
      else if badValue t c then some .badValue
      else if p.duplicate t k c then some .duplicate
      else none

/-- What a LOAD_ENTRY body comes to: the status, whether a field was clamped, and the part after it. -/
structure Loaded where
  status : RespStatus
  clamped : Bool
  part : Part
deriving DecidableEq, Repr

/-- LOAD_ENTRY with a body (R8), of a request or of an image record: stored whole or not at all. A body shorter than 2 bytes is BAD_REQUEST (R199, R201). -/
def Part.load (body : List Byte) (p : Part) : Loaded :=
  if body.length < 2 then ⟨.badRequest, false, p⟩
  else
    match p.loadRefusal body with
    | some st => ⟨st, false, p⟩
    | none =>
      match tableOf (field body 0 1) with
      | none => ⟨.badRequest, false, p⟩
      | some t =>
        let r := p.store t (field body 1 1) (body.drop 2)
        ⟨.ok, r.2, r.1⟩

end Sys2Proof.Machine
end

