-- ==== Sys2Proof/Machine/Reads.lean ====
section
/-! DEFINITION. What the read requests return: entries (R9, R188), snapshots (R43, R157), counters (R196) and the part's identity (R10), in the layouts of chapter 12. -/

namespace Sys2Proof.Machine

/-! ### Entries (Table 12-4) -/

/-- A class entry's bytes. -/
def ClassEntry.bytes (e : ClassEntry) : List Byte :=
  beBytes 2 e.timeout ++ beBytes 2 e.slow ++ [flagByte e.coverage, flagByte e.scored]

/-- A filter entry's bytes. -/
def FilterEntry.bytes (e : FilterEntry) : List Byte := [flagByte e.valid, e.code, byte e.cls.val]

/-- A recipe entry's bytes. -/
def RecipeEntry.bytes (e : RecipeEntry) : List Byte := [byte e.first, byte e.count, byte e.limit.val]

/-- A step entry's bytes. -/
def StepEntry.bytes (e : StepEntry) : List Byte :=
  [flagByte e.cooldown, e.mask] ++ signedBytes e.setPoint ++ [byte e.tolerance, byte e.ramp] ++ beBytes 2 e.dwell ++
    [byte e.advance.code] ++ beBytes 2 e.limit ++ beBytes 2 e.silence ++ [flagByte e.scoring]

/-- A limit set's bytes. -/
def LimitSet.bytes (e : LimitSet) : List Byte :=
  [byte e.wu, byte e.wr, byte e.wc, byte e.wf, byte e.ws] ++ beBytes 2 e.t1 ++ beBytes 2 e.t2 ++ beBytes 2 e.t3 ++
    beBytes 2 e.t4 ++ beBytes 2 e.t5 ++ beBytes 2 e.t6 ++ beBytes 4 e.vmin ++ beBytes 2 e.cap ++ [byte e.bt] ++
    beBytes 2 e.p

/-- A bin entry's bytes. -/
def BinEntry.bytes (e : BinEntry) : List Byte :=
  [byte e.tote.val, byte e.colour.code, byte e.blink.code, someByte e.retest, finByte e.retest]

/-- The rack settings' bytes. -/
def RackSettings.bytes (e : RackSettings) : List Byte :=
  beBytes 2 e.trunkType.toNat ++ slotSetBytes e.enables ++
    [byte e.budget, byte e.spinupWindow, byte e.spindownWait, byte e.recoveryMax, byte e.recoveryWindow,
     byte e.retestMax] ++
    beBytes 2 e.hardLimit ++ beBytes 2 e.tripTime ++ [byte e.kp, byte e.ki] ++ beBytes 2 e.imax ++
    [byte e.fanBase, byte e.fanBand] ++ beBytes 2 e.noShowWindow ++ [byte e.ejectHold]

/-- A manifest entry's bytes. -/
def ManifestEntry.bytes (e : ManifestEntry) : List Byte :=
  [byte e.position, byte e.slot.val, someByte e.identity] ++ identityBytes e.identity ++
    [finByte e.disposition, byte e.reason.code, someByte e.density] ++ beBytes 2 (e.density.getD 0) ++
    [byte e.retests, finByte e.recipe] ++ beBytes 4 e.testSeconds ++ [flagByte e.placed]

/-- The status part of a tote (R188, section 12.4). -/
def Tote.statusBytes (t : Tote) : List Byte :=
  [byte t.state.code, byte t.fill, byte t.reserved, byte t.wait.length] ++ t.wait.map fun i => byte i.val

/-- The bytes READ_ENTRY returns for an entry of a loadable table (R9, R188). -/
def Part.entryBytes (p : Part) (t : Table) (k : Nat) : List Byte :=
  match t with
  | .classTable => p.tables.classes[finN 7 k].bytes
  | .filter => p.tables.filters[finN 63 k].bytes
  | .recipe => p.tables.recipes[finN 15 k].bytes
  | .step => p.tables.steps[finN 127 k].bytes
  | .limitSet => p.tables.limits[finN 7 k].bytes
  | .bin => p.tables.bins[finN 8 k].bytes
  | .toteSettings => byte (p.capacity (finN 7 k)) :: (p.tote (finN 7 k)).statusBytes
  | .noticeLevel => [byte p.tables.levels[finN 17 k]]
  | .rackSettings => p.tables.rack.bytes

/-- The manifest entry at a position of a tote (R188). -/
def Part.manifestBytes (p : Part) (tote pos : Nat) : Option (List Byte) :=
  if 7 < tote ∨ pos = 0 then none
  else ((p.tote (finN 7 tote)).manifest[pos - 1]?).map ManifestEntry.bytes

/-- The entry a READ_ENTRY names; none where an index is out of range (R9). -/
def Part.readableBytes (p : Part) (n k pos : Nat) : Option (List Byte) :=
  if n = 9 then p.manifestBytes k pos
  else
    match tableOf n with
    | none => none
    | some t => if t.entries ≤ k then none else some (p.entryBytes t k)

/-! ### The slot snapshot (R43, Table 12-3) -/

/-- Flags as one byte, bit 0 first. -/
def bitsByte (l : List Bool) : Byte := byte (l.foldr (fun b a => b.toNat + 2 * a) 0)

/-- The sticky conditions' byte. -/
def Sticky.byte (c : Sticky) : Byte :=
  bitsByte [c.silenceWarned, c.shortfall, c.laneRecovered, c.orphanSeen, c.refusedSeen, c.zoneAlarmSeen]

/-- A lamp's two bytes. -/
def Lamp.bytes (l : Lamp) : List Byte := [byte l.colour.code, byte l.blink.code]

/-- The accumulator record's 31 bytes. -/
def Accum.bytes (a : Accum) : List Byte :=
  beBytes 4 a.v ++ beBytes 2 a.u ++ beBytes 2 a.r ++ beBytes 2 a.c ++ beBytes 2 a.f ++ beBytes 2 a.s ++
    (a.hist.toList.flatMap (beBytes 2)) ++ [flagByte a.frozen]

/-- The slot counters' 8 bytes (Table 12-2, Table 12-3). -/
def SlotCounters.bytes (c : SlotCounters) : List Byte :=
  beBytes 2 c.accepted ++ beBytes 2 c.refused ++ beBytes 2 c.orphans ++ beBytes 2 c.laneErrors

/-- An outstanding entry's 5 bytes. -/
def Entry.bytes (e : Entry) : List Byte := [e.tag, e.code, byte e.cls.val, byte e.state.code, byte e.step]

/-- The interim grade's 4 bytes. -/
def interimBytes : Option Graded → List Byte
  | none => [0, 0, 0, 0]
  | some g => [byte g.disposition.val, byte g.reason.code] ++ beBytes 2 (g.density.getD 0)

/-- The density of an interim grade. -/
def interimDensity (o : Option Graded) : Option Nat := o.bind (·.density)

/-- The slot snapshot (R43, Table 12-3). -/
def Part.slotSnapshot (p : Part) (i : SlotId) : List Byte :=
  let s := p.slot i
  let g := p.interim i
  [byte s.state.code, byte (zoneOf i).val,
   bitsByte [s.presence.value, p.enabled i, s.stepDone, s.retry, s.lane == .recovering, s.stage1],
   s.sticky.byte,
   bitsByte [s.recipe.isSome, s.disposition.isSome, s.density.isSome, s.identity.isSome, s.tote.isSome,
     s.position.isSome, g.isSome, (interimDensity g).isSome],
   finByte s.recipe, byte s.stepIndex] ++
  beBytes 2 s.elapsed ++ beBytes 2 s.dwell ++
  [byte s.shortfall, byte s.retests, finByte s.disposition, byte s.reason.code] ++
  beBytes 2 (s.density.getD 0) ++ identityBytes s.identity ++ beBytes 2 (unitsLeft s.silenceTimer) ++
  [finByte s.tote, byte (s.position.getD 0), byte s.recoveries] ++
  s.lamp.bytes ++ (s.binLamp.getD .dark).bytes ++ s.counters.bytes ++ beBytes 4 s.testSeconds ++
  interimBytes g ++ s.acc.bytes ++ [byte s.outstanding.length] ++ s.outstanding.flatMap Entry.bytes

/-- The sticky conditions after a READ_SLOT (R42): clear, but for those whose cause remains. -/
def Part.relatched (p : Part) (i : SlotId) : Sticky :=
  { silenceWarned := (p.slot i).stage1, shortfall := false, laneRecovered := (p.slot i).lane == .recovering,
    orphanSeen := false, refusedSeen := false, zoneAlarmSeen := (p.zone (zoneOf i)).state == .alarm }

/-! ### The zone snapshot (R157, section 12.3) -/

/-- A slot's 4 bytes in its zone's snapshot. -/
def Part.zoneSlotBytes (p : Part) (i : SlotId) : List Byte :=
  [byte i.val, byte (p.slot i).state.code] ++
    (match p.offered i with
     | none => [0, 0]
     | some (sp, _) => signedBytes sp)

/-- The whole seconds remaining of an alarm timer (log entry 13). -/
def AlarmTimer.secondsLeft : AlarmTimer → Nat
  | .running t => unitsLeft (some t)
  | .stopped => 0
  | .expired => 0

/-- The three bytes pairs of a request: set-point, supplying slot and ramp. -/
def requestBytes : Option ZoneRequest → List Byte
  | none => [0, 0, 0, 0]
  | some r => signedBytes r.setPoint ++ [byte r.slot.val, byte r.ramp]

/-- The zone snapshot (R157). -/
def Part.zoneSnapshot (p : Part) (z : ZoneId) : List Byte :=
  let q := p.zone z
  [byte z.val, byte q.state.code,
   bitsByte [q.temperature.isSome, q.request.isSome, q.target.isSome, q.sensorFault, p.door.value],
   byte (lastSampleCode q.lastSample)] ++
  optSigned q.temperature ++ [byte q.invalidRun, byte q.validRun] ++ requestBytes q.request ++
  optSigned q.target ++ [byte q.rampAcc] ++ signedBytes q.integral ++ [byte q.duty, byte q.fan, byte q.alarm.code] ++
  beBytes 2 q.alarm.secondsLeft ++ (slotsOf z).flatMap p.zoneSlotBytes

/-! ### Counters (R196) and the part's identity (R10) -/

/-- The counters in the order of R196. -/
def Part.counterBytes (p : Part) : List Byte :=
  let t := p.trunk
  ([t.badFrames, t.badMessages, t.requestsDropped, t.refusalsUnsent, t.noticesLostTotal,
    t.entriesSkipped].flatMap (beBytes 4)) ++ allSlots.flatMap fun i => (p.slot i).counters.bytes

/-- Every counter becomes 0 (R196). -/
def Part.zeroCounters (p : Part) : Part :=
  (p.modTrunk fun t =>
    { t with badFrames := 0, badMessages := 0, requestsDropped := 0, refusalsUnsent := 0, noticesLostTotal := 0,
             entriesSkipped := 0 }).modAllSlots fun s => { s with counters := .zero }

/-- The six characters FK2460. -/
def partIdentifier : List Byte := [0x46, 0x4B, 0x32, 0x34, 0x36, 0x30]

/-- READ_PART_ID's content (R10, Table 12-2). -/
def Part.identityContent (p : Part) : List Byte :=
  partIdentifier ++ [byte Config.revision, byte p.loader.phase.code, p.loader.strap.setWidth 8] ++
    beBytes 6 p.trunk.station.toNat ++ beBytes 2 p.tables.rack.trunkType.toNat ++
    [byte (loadOutcomeCode p.loader.outcome)] ++ beBytes 2 p.loader.applied ++ beBytes 2 p.loader.skipped

end Sys2Proof.Machine
end

