-- ==== Sys2Proof/Machine/Management.lean ====
section
/-! DEFINITION. The Management Unit: taking a request (R5, R6, R7), the general checks, and what each request does (Table 1-2; R9, R10, R14, R15, R23, R34, R43, R61, R157, R164, R185, R186, R196). -/

namespace Sys2Proof.Machine

/-! ### Requests by code (Table 1-2, Table 12-1) -/

/-- The requests of Table 1-2. -/
inductive Req where
  | readPartId | loadEntry | readEntry | readSlot | readZone | readCounters | startSlot | stepDone | abortSlot
  | service | toteSwap | toteWithdraw | resetTraffic | resetRack
deriving DecidableEq, Repr

/-- The request of a code; none for a code not in Table 1-2. -/
def reqOf (code : Byte) : Option Req :=
  match code.toNat with
  | 0x01 => some .readPartId
  | 0x02 => some .loadEntry
  | 0x03 => some .readEntry
  | 0x10 => some .readSlot
  | 0x11 => some .readZone
  | 0x12 => some .readCounters
  | 0x20 => some .startSlot
  | 0x21 => some .stepDone
  | 0x22 => some .abortSlot
  | 0x23 => some .service
  | 0x30 => some .toteSwap
  | 0x31 => some .toteWithdraw
  | 0x40 => some .resetTraffic
  | 0x41 => some .resetRack
  | _ => none

/-- Does the request name a slot (Table 1-2)? The others require 255. -/
def Req.namesSlot : Req → Bool
  | .readSlot | .startSlot | .stepDone | .abortSlot => true
  | .readPartId | .loadEntry | .readEntry | .readZone | .readCounters | .service | .toteSwap | .toteWithdraw
  | .resetTraffic | .resetRack => false

/-- Is the body's length one the request allows at check 4 of R6 (Table 12-1, R201)? -/
def Req.lengthOk (r : Req) (n : Nat) : Bool :=
  match r with
  | .loadEntry => 2 ≤ n
  | .readEntry => n == 5
  | .service => n == 3
  | .readZone | .readCounters | .startSlot | .stepDone | .abortSlot | .toteSwap | .toteWithdraw => n == 1
  | .readPartId | .readSlot | .resetTraffic | .resetRack => n == 0

/-- Is the slot field in the range Table 1-2 gives for the request? -/
def Req.slotOk (r : Req) (slot : Byte) : Bool :=
  if r.namesSlot then decide (slot.toNat < 24) else slot == 255

/-- The general checks (R6): the status of the first that fails. -/
def generalCheck (phase : Phase) (r : Request) : Option RespStatus :=
  match reqOf r.code with
  | none => some .badRequest
  | some q =>
    if phase = .loading ∧ q ≠ .readPartId then some .notReady
    else if !q.slotOk r.slot then some .badIndex
    else if !q.lengthOk r.body.length then some .badRequest
    else none

/-! ### Answers (R7) -/

/-- What serving a request comes to: its response's status, CLAMPED and content, and the part. -/
structure Answer where
  status : RespStatus
  clamped : Bool
  content : List Byte
  part : Part
deriving DecidableEq, Repr

/-- An OK answer with content. -/
def Answer.ok (content : List Byte) (p : Part) : Answer := ⟨.ok, false, content, p⟩

/-- A refusal: no state changes (R6). -/
def Answer.no (st : RespStatus) (p : Part) : Answer := ⟨st, false, [], p⟩

/-- The answer's response to a request (R7). -/
def Answer.response (a : Answer) (r : Request) : Response := ⟨r.slot, r.tag, a.status, a.clamped, a.content⟩

/-- The slot a request names; the range is checked before it is used. -/
def Request.slotId (r : Request) : SlotId := finN 23 r.slot.toNat

/-- The first byte of a request's body. -/
def Request.arg (r : Request) : Nat := field r.body 0 1

/-- The Management Unit takes the request at the head of the queue (R5, R6), if the place is empty and the request is one of this row's (log entry 1): the server address becomes its source; the general checks or `serve` give the answer; the response is placed last. -/
def Part.take (mine : Request → Bool) (serve : Request → Part → Answer) (p : Part) : Part :=
  match p.trunk.response, p.trunk.requests with
  | none, r :: rest =>
    if mine r then
      let q := { p.modTrunk fun t => { t with requests := rest, server := r.source } with serving := some r }
      let a := match generalCheck q.loader.phase r with
        | some st => Answer.no st q
        | none => serve r q
      a.part.modTrunk fun t => { t with response := some (a.response r) }
    else p
  | _, _ => p

/-- Is the request's code that of a request of Table 1-2? -/
def Request.isReq (q : Req) (r : Request) : Bool := reqOf r.code == some q

/-- Is the request's code in Table 1-2 nowhere? -/
def Request.unknown (r : Request) : Bool := reqOf r.code == none

/-! ### Reads -/

/-- READ_PART_ID (R10). -/
def serveReadPartId (_ : Request) (p : Part) : Answer := .ok p.identityContent p

/-- LOAD_ENTRY (R8). -/
def serveLoadEntry (r : Request) (p : Part) : Answer :=
  let x := p.load r.body
  ⟨x.status, x.clamped, [], x.part⟩

/-- READ_ENTRY (R9). -/
def serveReadEntry (r : Request) (p : Part) : Answer :=
  match p.readableBytes (field r.body 0 1) (field r.body 1 1) (field r.body 2 1) with
  | none => .no .badIndex p
  | some b =>
    if 1024 < field r.body 3 2 then .no .badValue p
    else .ok (beBytes 2 b.length ++ b.take (field r.body 3 2)) p

/-- READ_SLOT (R43): the snapshot, then the sticky conditions cleared and latched again where their cause remains (R42). -/
def serveReadSlot (r : Request) (p : Part) : Answer :=
  let i := r.slotId
  .ok (p.slotSnapshot i) (p.modSlot i fun s => { s with sticky := p.relatched i })

/-- READ_ZONE (R157). -/
def serveReadZone (r : Request) (p : Part) : Answer :=
  if 5 < r.arg then .no .badIndex p else .ok (p.zoneSnapshot (finN 5 r.arg)) p

/-- READ_COUNTERS (R196). -/
def serveReadCounters (r : Request) (p : Part) : Answer :=
  if 1 < r.arg then .no .badValue p else .ok p.counterBytes (p.when (r.arg == 1) Part.zeroCounters)

/-! ### Slots -/

/-- Does the upstream completion queue hold a completion made for an entry of the slot (R23, check 3)? -/
def Part.completionsWaiting (p : Part) (i : SlotId) : Bool :=
  p.trunk.completions.any fun c => c.forEntry && c.slot == i

/-- START_SLOT's effects (R23): the record, the accumulators, POWER_WAIT, the spin-up queue, and the occasion for a grant (R128). -/
def Part.startSlot (i : SlotId) (recipe : Fin 16) (p : Part) : Part :=
  (((p.modSlot i fun s => { s.atStart recipe with acc := .zero }).changeState i .powerWait).joinQueue i).grants

/-- START_SLOT's checks (R23). -/
def Part.startRefusal (p : Part) (i : SlotId) (recipe : Nat) : Option RespStatus :=
  if 15 < recipe then some .badIndex
  else if (p.slot i).state ≠ .seated then some .wrongState
  else if p.completionsWaiting i then some .wrongState
  else if p.probeCode = none ∨ p.tables.recipes[finN 15 recipe].count = 0 then some .configMissing
  else none

/-- START_SLOT (R23). -/
def serveStartSlot (r : Request) (p : Part) : Answer :=
  match p.startRefusal r.slotId r.arg with
  | some st => .no st p
  | none => .ok [] (p.startSlot r.slotId (finN 15 r.arg))

/-- STEP_DONE's checks (R61). -/
def Part.stepDoneRefusal (p : Part) (i : SlotId) (k : Nat) : Option RespStatus :=
  let s := p.slot i
  if 16 ≤ k ∧ k ≤ 254 then some .badValue
  else if !s.state.stepping then some .wrongState
  else if k ≠ 255 ∧ k ≠ s.stepIndex then some .wrongState
  else
    match p.currentStep i with
    | none => some .wrongState
    | some st =>
      match st.advance with
      | .dwell => some .wrongState
      | .server => none
      | .both => if s.stepDone then some .wrongState else none

/-- An accepted STEP_DONE (R61): the watchdog's service, then the step's end by its advance mode. -/
def Part.stepDoneEffect (i : SlotId) (p : Part) : Part :=
  let q := p.serviceSilence i
  match p.currentStep i with
  | none => q
  | some st =>
    match st.advance with
    | .dwell => q
    | .server => q.endStep i .serverDone
    | .both =>
      let q1 := q.modSlot i fun s => { s with stepDone := true }
      if st.dwell ≤ (p.slot i).dwell then q1.endStep i .bothMet else q1

/-- STEP_DONE (R61). -/
def serveStepDone (r : Request) (p : Part) : Answer :=
  match p.stepDoneRefusal r.slotId r.arg with
  | some st => .no st p
  | none => .ok [] (p.stepDoneEffect r.slotId)

/-- May an abort reach a slot in the state (R34, check 2)? -/
def SlotState.abortable : SlotState → Bool
  | .powerWait | .spinup | .ident | .running | .condemned | .draining => true
  | .empty | .seated | .spindown | .toteWait | .unloadReady => false

/-- ABORT_SLOT (R34). -/
def serveAbortSlot (r : Request) (p : Part) : Answer :=
  if 1 < r.arg then .no .badValue p
  else if !(p.slot r.slotId).state.abortable then .no .wrongState p
  else .ok [] (p.abort r.slotId (if r.arg = 0 then .serverReturn else .serverReject))

/-- The slots a SERVICE services (R164): those flagged that are RUNNING or CONDEMNED. -/
def Part.serviced (p : Part) (set : BitVec 24) : BitVec 24 := slotSet fun i => set[i] && (p.slot i).state.stepping

/-- SERVICE (R164). -/
def serveService (r : Request) (p : Part) : Answer :=
  let set := p.serviced (slotSetAt r.body 0)
  .ok (slotSetBytes set) (p.each allSlots fun i q => q.when set[i] (Part.serviceSilence i))

/-! ### Totes -/

/-- TOTE_SWAP (R185). -/
def serveToteSwap (r : Request) (p : Part) : Answer :=
  if 7 < r.arg then .no .badIndex p
  else if (p.tote (finN 7 r.arg)).busy then .no .toteBusy p
  else .ok [] (p.swap (finN 7 r.arg))

/-- TOTE_WITHDRAW (R186). -/
def serveToteWithdraw (r : Request) (p : Part) : Answer :=
  if 7 < r.arg then .no .badIndex p
  else if (p.tote (finN 7 r.arg)).state = .absent then .no .wrongState p
  else if (p.tote (finN 7 r.arg)).busy then .no .toteBusy p
  else .ok [] (p.withdraw (finN 7 r.arg))

/-! ### Resets (R14, R15) -/

/-- A completion frame being sent is cut short (R12). -/
def TrunkPort.cutCompletion (t : TrunkPort) : TrunkPort :=
  match t.tx with
  | .sending .completion f => { t with tx := .idle, lastFrame := some (.cutShort f) }
  | .sending .response _ => t
  | .sending .notice _ => t
  | .idle => t

/-- What either reset does in the Trunk Port (R14, R15). -/
def TrunkPort.reset (t : TrunkPort) : TrunkPort := { t.cutCompletion with completions := [], runCount := 0 }

/-- RESET_LANE where a drive is present; where none is, a COMMAND send in progress is cut short all the same (R45, R46, R89). -/
def Part.resetLaneIfPresent (i : SlotId) (p : Part) : Part :=
  if p.present i then p.sendReset i else p.cutCommand i

/-- The traffic reset at one Slot Engine (R46), but for the end of DRAINING. -/
def Part.trafficResetSlot (i : SlotId) (p : Part) : Part :=
  ((p.modSlot i fun s => { s with outstanding := [] }).resetLaneIfPresent i).modSlot i Slot.openLane

/-- The traffic reset (R14, R46): every slot, then the DRAINING slots end DRAINING, in an order the spec leaves open. -/
def Part.trafficReset (p : Part) : Part :=
  ((p.modTrunk TrunkPort.reset).each allSlots Part.trafficResetSlot).eachFree allSlots Part.drainCheck

/-- RESET_TRAFFIC (R14). -/
def serveResetTraffic (_ : Request) (p : Part) : Answer := .ok [] p.trafficReset

/-- A slot record after a rack reset, before seating (R45, R92, R173). -/
def Slot.rackReset (s : Slot) : Slot :=
  { { s with outstanding := [] }.atEmpty with
    sticky := .clear
    counters := .zero
    acc := .zero
    hold := if s.eject.value then .spent else .idle
    holdTimer := none }

/-- The rack reset at one Slot Engine (R45), before seating. -/
def Part.rackResetSlot (i : SlotId) (p : Part) : Part := (p.modSlot i Slot.rackReset).resetLaneIfPresent i

/-- The rack reset at the Power Arbiter, the zones and the totes (R140, R158, R190). -/
def Part.rackResetShared (p : Part) : Part :=
  { p with
    spinQueue := []
    spinCount := 0
    zones := mapV (Zone.rackReset p.tables.rack p.door.value) p.zones
    totes := Vector.replicate 8 .powerUp }

/-- A seatable slot is seated with SLOT_SEATED and no SLOT_STATE. -/
def Part.seatIfSeatable (i : SlotId) (p : Part) : Part := p.when (p.seatable i) (Part.seatQuietly i)

/-- The rack reset (R15, R45): every block, then seating in an order the spec leaves open, and the occasion for a grant (R140). -/
def Part.rackReset (p : Part) : Part :=
  ((((p.modTrunk TrunkPort.reset).each allSlots Part.rackResetSlot).rackResetShared).eachFree allSlots
    Part.seatIfSeatable).grants

/-- RESET_RACK (R15). -/
def serveResetRack (_ : Request) (p : Part) : Answer := .ok [] p.rackReset

end Sys2Proof.Machine
end

