-- ==== Sys2Proof/Machine/Trunk.lean ====
section
/-! DEFINITION. The Trunk Port: frames and messages received (R1, R3, R4), the upstream transmitter (R11, R12), the link. -/

namespace Sys2Proof.Machine

/-! ### Downstream (R1, R3, R4) -/

/-- A MGMT_REQUEST is offered to the request queue (R4). -/
def TrunkPort.offerRequest (r : Request) (t : TrunkPort) : TrunkPort :=
  if t.requests.length < Config.requestPlaces then { t with requests := t.requests ++ [r] }
  else { t with requestsDropped := inc32 t.requestsDropped }

/-- The data field of an accepted frame (R3). -/
def Part.message (source : Mac) (data : List Byte) (p : Part) : Part :=
  match parseMessage data with
  | .inconsistent => p.modTrunk fun t => { t with badMessages := inc32 t.badMessages }
  | .command i tag code body => p.slotCommand i tag code body
  | .request slot tag code body => p.modTrunk (·.offerRequest ⟨source, slot, tag, code, body⟩)

/-- Is a frame with a good check accepted (R1)? -/
def Part.accepts (p : Part) (dest : Mac) (etherType : BitVec 16) : Bool :=
  (dest == p.trunk.station || dest == Config.broadcast) && etherType == p.tables.rack.trunkType

/-- TRUNK_FRAME_RECEIVED (R1). -/
def Part.receive (good : Bool) (dest source : Mac) (etherType : BitVec 16) (data : List Byte) (p : Part) : Part :=
  if !good then p.modTrunk fun t => { t with badFrames := inc32 t.badFrames }
  else if p.accepts dest etherType then p.message source data
  else p

/-! ### The transmitter's choice (R11) -/

/-- The notice with the highest level, and of that level the one raised earliest. -/
def bestNotice : List Notice → Option Notice
  | [] => none
  | n :: l =>
    match bestNotice l with
    | none => some n
    | some m => if n.level < m.level then some m else some n

/-- The first notice equal to `n` is marked as being sent. -/
def markSending (n : Notice) : List Notice → List Notice
  | [] => []
  | m :: l => if m = n then { m with sending := true } :: l else m :: markSending n l

/-- A frame with a message, under the addresses and the type in force (R2). -/
def Part.frame (p : Part) (msg : List Byte) : Frame :=
  ⟨p.trunk.server, p.trunk.station, p.tables.rack.trunkType, msg⟩

/-- A response is chosen: the run count is unchanged. -/
def Part.sendResponse (r : Response) (p : Part) : Part :=
  p.modTrunk fun t => { t with tx := .sending .response (p.frame r.message) }

/-- A completion is chosen: it adds 1 to the run count while notices wait, and clears it otherwise. -/
def Part.sendCompletion (c : Completion) (p : Part) : Part :=
  p.modTrunk fun t =>
    { t with
      tx := .sending .completion (p.frame c.message)
      runCount := if t.notices = [] then 0 else min Config.runLimit (t.runCount + 1) }

/-- A notice is chosen: the run count becomes 0. -/
def Part.sendNotice (n : Notice) (p : Part) : Part :=
  p.modTrunk fun t =>
    { t with
      tx := .sending .notice (p.frame n.message)
      runCount := 0
      notices := markSending n t.notices }

/-- The choice among the sources (R11), rules 2 to 4. -/
def Part.chooseWaiting (p : Part) : Part :=
  match bestNotice p.trunk.notices, p.trunk.completions with
  | none, [] => p
  | none, c :: _ => p.sendCompletion c
  | some n, [] => p.sendNotice n
  | some n, c :: _ => if p.trunk.runCount = Config.runLimit then p.sendNotice n else p.sendCompletion c

/-- TRANSMIT_CHOICE (R11): idle, with the link UP. -/
def Part.choose (p : Part) : Part :=
  if p.trunk.linkUp ∧ p.trunk.tx = .idle then
    match p.trunk.response with
    | some r => p.sendResponse r
    | none => p.chooseWaiting
  else p

/-! ### The end of a frame (R12) -/

/-- The Slot Engine releases the DONE entry with a tag (R81), and DRAINING may end. -/
def Part.release (i : SlotId) (tag : Byte) (p : Part) : Part :=
  (p.modSlot i fun s =>
    { s with outstanding := s.outstanding.filter fun e => !(e.tag == tag && e.state == .done) }).drainCheck i

/-- A completion leaves the head of its queue; one made for an entry releases it (R12, R81). -/
def Part.completionSent (p : Part) : Part :=
  match p.trunk.completions with
  | [] => p
  | c :: rest =>
    (p.modTrunk fun t => { t with completions := rest }).when c.forEntry (Part.release c.slot c.tag)

/-- The item of a source leaves it (R12). -/
def Part.itemSent (src : TxSource) (p : Part) : Part :=
  match src with
  | .response => { p.modTrunk fun t => { t with response := none } with serving := none }
  | .completion => p.completionSent
  | .notice => (p.modTrunk fun t => { t with notices := t.notices.filter fun n => !n.sending }).reportLost

/-- FRAME_SEND_END (R12). -/
def Part.frameSent (p : Part) : Part :=
  match p.trunk.tx with
  | .idle => p
  | .sending src f => (p.modTrunk fun t => { t with tx := .idle, lastFrame := some (.whole f) }).itemSent src

/-! ### The link (R11, R12) -/

/-- LINK_UP (R11). -/
def TrunkPort.up (t : TrunkPort) : TrunkPort := { t with linkUp := true }

/-- LINK_DOWN (R12): a frame being sent is cut short, and its item stays in its place. -/
def TrunkPort.down (t : TrunkPort) : TrunkPort :=
  match t.tx with
  | .idle => { t with linkUp := false }
  | .sending _ f =>
    { t with linkUp := false, tx := .idle, lastFrame := some (.cutShort f),
             notices := t.notices.map fun n => { n with sending := false } }

end Sys2Proof.Machine
end

