-- ==== Sys2Proof/Machine/Loading.lean ====
section
/-! DEFINITION. The Configuration Loader: judging the image (R197), applying it, and the end of LOADING (R199); a transfer that is ended (R197). -/

namespace Sys2Proof.Machine

/-! ### The image (section 11.4, section 12.5) -/

/-- The sum modulo 65536 of every image byte but the two check bytes (R197). -/
def imageSum (img : List Byte) : Nat := (((img.take 4) ++ img.drop 6).foldl (fun a b => a + b.toNat) 0) % 65536

/-- The records of an image's bytes after the header: each a length and that many bytes; none if they do not end exactly (R197). -/
def splitRecords : Nat → List Byte → Option (List (List Byte))
  | _, [] => some []
  | 0, _ :: _ => none
  | _ + 1, [_] => none
  | k + 1, l1 :: l0 :: rest =>
    let n := beVal [l1, l0]
    if rest.length < n then none
    else (splitRecords k (rest.drop n)).map (rest.take n :: ·)

/-- The records of an image of length `len`. -/
def imageRecords (img : List Byte) (len : Nat) : Option (List (List Byte)) :=
  splitRecords len ((img.take len).drop 14)

/-- How the image is judged (R197): the bytes the memory acknowledged, in order; the next read after them was not acknowledged. -/
def judgeImage (acked : List Byte) : LoadOutcome :=
  let len := field acked 2 2
  if acked.length < 2 ∨ field acked 0 2 ≠ 0x4A46 then .absent
  else if acked.length < 14 then .checkFailed
  else if len < 14 ∨ 16384 < len then .checkFailed
  else if acked.length < len then .checkFailed
  else if imageSum (acked.take len) ≠ field acked 4 2 then .checkFailed
  else
    match imageRecords acked len with
    | none => .checkFailed
    | some _ => .applied

/-! ### Applying (R199) -/

/-- A record is skipped: the loader's count and CONFIG_ENTRIES_SKIPPED. -/
def Part.skipRecord (p : Part) : Part :=
  { p.modTrunk fun t => { t with entriesSkipped := inc32 t.entriesSkipped } with
    loader := { p.loader with skipped := p.loader.skipped + 1 } }

/-- Step 1: the header's trunk type value (R199, R200). -/
def Part.applyTrunkType (v : Nat) (p : Part) : Part :=
  if v = 0 then p
  else if v < 0x0600 then p.skipRecord
  else p.modTables fun t => { t with rack := { t.rack with trunkType := BitVec.ofNat 16 v } }

/-- Step 2: one record, as a LOAD_ENTRY with that body (R199). -/
def Part.applyRecord (body : List Byte) (p : Part) : Part :=
  let x := p.load body
  if x.status = .ok then { x.part with loader := { x.part.loader with applied := x.part.loader.applied + 1 } }
  else x.part.skipRecord

/-- Step 3: the header's station address (R199, R2). -/
def Part.applyStation (a : Mac) (p : Part) : Part :=
  if a = 0 then p else p.modTrunk fun t => { t with station := a }

/-- An image that passed is applied (R199). -/
def Part.applyImage (img : List Byte) (p : Part) : Part :=
  (((p.applyTrunkType (field img 12 2)).each ((imageRecords img (field img 2 2)).getD []) Part.applyRecord)).applyStation
    (BitVec.ofNat 48 (field img 6 6))

/-- The end of LOADING (R199): READY, seating (R21), CONFIG_LOADED, and the occasion for a grant (R140). -/
def Part.endLoading (o : LoadOutcome) (p : Part) : Part :=
  let q := { p with loader := { p.loader with phase := .ready, outcome := some o } }
  ((q.eachFree allSlots Part.seatIfSeatable).raise (.configLoaded o q.loader.applied q.loader.skipped)).grants

/-- Is the loader done with the image whose bytes it has read? A transfer that was ended leaves a later read unmade, so the image has failed even if those bytes would do. -/
def Loader.verdict (l : Loader) (acked : List Byte) : LoadOutcome :=
  match l.failedRead with
  | none => judgeImage acked
  | some a => if judgeImage a = .absent then .absent else .checkFailed

/-- CONFIG_IMAGE_LOAD_END (R199): in LOADING, the image is judged, applied if it passed, and LOADING ends. -/
def Part.loadEnd (acked : List Byte) (p : Part) : Part :=
  if p.loader.phase = .loading then
    let o := p.loader.verdict acked
    (p.when (o == .applied) (Part.applyImage acked)).endLoading o
  else p

/-- Has a transfer that began when the loader had counted `began` ticks run for the 50 ms of R197? -/
def Loader.transferDue (l : Loader) (began : Nat) : Bool := began + Config.transferBound ≤ l.counted

/-- CONFIG_TRANSFER_TIMEOUT (R197): a transfer that has not ended 50 ms after it began is ended as not acknowledged; the first that is decides. -/
def Part.transferTimeout (x : EndedTransfer) (p : Part) : Part :=
  if p.loader.phase = .loading ∧ p.loader.failedRead = none ∧ p.loader.transferDue x.began then
    { p with loader := { p.loader with failedRead := some x.acked } }
  else p

/-- POWER_ON (R198): every block in its power-up state; the model's own two numbers are no state of the part's. -/
def Part.powerOn (strap : BitVec 6) (presence eject : BitVec 24) (doorOpen : Bool) (p : Part) : Part :=
  Part.powerUp strap presence eject doorOpen p.order p.fresh

end Sys2Proof.Machine
end

