-- ==== Sys2Proof/Machine/Commands.lean ====
section
/-! DEFINITION. The meaning of every command: one definition per row of spec/opcode_table.json, over the operations of the chapters. Every command ends in a next state. -/

namespace Sys2Proof.Machine

/-! ### Power-up and loading -/

/-- POWER_ON (R198). -/
def execPowerOn (strap : BitVec 6) (presence eject : BitVec 24) (doorOpen : Bool) (s : State) : Host.Outcome State Fault Refusal :=
  s.onPart (Part.powerOn strap presence eject doorOpen)

/-- CONFIG_TRANSFER_TIMEOUT (R197). -/
def execConfigTransferTimeout (ended : EndedTransfer) (s : State) : Host.Outcome State Fault Refusal :=
  s.onPart (Part.transferTimeout ended)

/-- CONFIG_IMAGE_LOAD_END (R199). -/
def execConfigImageLoadEnd (acked : List Byte) (s : State) : Host.Outcome State Fault Refusal :=
  s.onPart (Part.loadEnd acked)

/-! ### Trunk, downstream -/

/-- TRUNK_FRAME_RECEIVED (R1). -/
def execTrunkFrameReceived (checkGood : Bool) (dest source : Mac) (etherType : BitVec 16) (data : List Byte) (s : State) : Host.Outcome State Fault Refusal :=
  s.onPart (Part.receive checkGood dest source etherType data)

/-! ### Management requests -/

/-- UNKNOWN_REQUEST_CODE (R6). -/
def execUnknownRequestCode (s : State) : Host.Outcome State Fault Refusal :=
  s.onPart (Part.take Request.unknown fun _ p => Answer.no .badRequest p)

/-- READ_PART_ID (R10). -/
def execReadPartId (s : State) : Host.Outcome State Fault Refusal :=
  s.onPart (Part.take (Request.isReq .readPartId) serveReadPartId)

/-- LOAD_ENTRY (R8). -/
def execLoadEntry (s : State) : Host.Outcome State Fault Refusal :=
  s.onPart (Part.take (Request.isReq .loadEntry) serveLoadEntry)

/-- READ_ENTRY (R9). -/
def execReadEntry (s : State) : Host.Outcome State Fault Refusal :=
  s.onPart (Part.take (Request.isReq .readEntry) serveReadEntry)

/-- READ_SLOT (R43). -/
def execReadSlot (s : State) : Host.Outcome State Fault Refusal :=
  s.onPart (Part.take (Request.isReq .readSlot) serveReadSlot)

/-- READ_ZONE (R157). -/
def execReadZone (s : State) : Host.Outcome State Fault Refusal :=
  s.onPart (Part.take (Request.isReq .readZone) serveReadZone)

/-- READ_COUNTERS (R196). -/
def execReadCounters (s : State) : Host.Outcome State Fault Refusal :=
  s.onPart (Part.take (Request.isReq .readCounters) serveReadCounters)

/-- START_SLOT (R23). -/
def execStartSlot (s : State) : Host.Outcome State Fault Refusal :=
  s.onPart (Part.take (Request.isReq .startSlot) serveStartSlot)

/-- STEP_DONE (R61). -/
def execStepDone (s : State) : Host.Outcome State Fault Refusal :=
  s.onPart (Part.take (Request.isReq .stepDone) serveStepDone)

/-- ABORT_SLOT (R34). -/
def execAbortSlot (s : State) : Host.Outcome State Fault Refusal :=
  s.onPart (Part.take (Request.isReq .abortSlot) serveAbortSlot)

/-- SERVICE (R164). -/
def execService (s : State) : Host.Outcome State Fault Refusal :=
  s.onPart (Part.take (Request.isReq .service) serveService)

/-- TOTE_SWAP (R185). -/
def execToteSwap (s : State) : Host.Outcome State Fault Refusal :=
  s.onPart (Part.take (Request.isReq .toteSwap) serveToteSwap)

/-- TOTE_WITHDRAW (R186). -/
def execToteWithdraw (s : State) : Host.Outcome State Fault Refusal :=
  s.onPart (Part.take (Request.isReq .toteWithdraw) serveToteWithdraw)

/-- RESET_TRAFFIC (R14). -/
def execResetTraffic (s : State) : Host.Outcome State Fault Refusal :=
  s.onPart (Part.take (Request.isReq .resetTraffic) serveResetTraffic)

/-- RESET_RACK (R15). -/
def execResetRack (s : State) : Host.Outcome State Fault Refusal :=
  s.onPart (Part.take (Request.isReq .resetRack) serveResetRack)

/-! ### Trunk, upstream -/

/-- TRANSMIT_CHOICE (R11). -/
def execTransmitChoice (s : State) : Host.Outcome State Fault Refusal :=
  s.onPart (Part.choose)

/-- FRAME_SEND_END (R12). -/
def execFrameSendEnd (s : State) : Host.Outcome State Fault Refusal :=
  s.onPart (Part.frameSent)

/-- LINK_UP (R11). -/
def execLinkUp (s : State) : Host.Outcome State Fault Refusal :=
  s.onPart (Part.modTrunk TrunkPort.up)

/-- LINK_DOWN (R12). -/
def execLinkDown (s : State) : Host.Outcome State Fault Refusal :=
  s.onPart (Part.modTrunk TrunkPort.down)

/-! ### Time and lines -/

/-- TIME_BASE_TICK (R47). -/
def execTimeBaseTick (s : State) : Host.Outcome State Fault Refusal :=
  s.onPart (Part.tick)

/-- SLOT_SECOND_TICK (R18, R56). -/
def execSlotSecondTick (slot : SlotId) (s : State) : Host.Outcome State Fault Refusal :=
  s.onPart (Part.slotSecond slot)

/-- STEP_TIME_LIMIT_EXPIRY (R62). -/
def execStepTimeLimitExpiry (slot : SlotId) (s : State) : Host.Outcome State Fault Refusal :=
  s.onPart (Part.stepLimit slot)

/-- PRESENCE_LINE_CHANGE (R20). -/
def execPresenceLineChange (slot : SlotId) (present : Bool) (s : State) : Host.Outcome State Fault Refusal :=
  s.onPart (Part.presenceLine slot present)

/-- PRESENCE_ARRIVAL (R21). -/
def execPresenceArrival (slot : SlotId) (s : State) : Host.Outcome State Fault Refusal :=
  s.onPart (Part.arrival slot)

/-- PRESENCE_LOSS (R38). -/
def execPresenceLoss (slot : SlotId) (s : State) : Host.Outcome State Fault Refusal :=
  s.onPart (Part.loss slot)

/-! ### Windows and power -/

/-- SPINUP_WINDOW_EXPIRY (R134). -/
def execSpinupWindowExpiry (slot : SlotId) (s : State) : Host.Outcome State Fault Refusal :=
  s.onPart (Part.spinupOver slot)

/-- NO_SHOW_WINDOW_EXPIRY (R166). -/
def execNoShowWindowExpiry (slot : SlotId) (s : State) : Host.Outcome State Fault Refusal :=
  s.onPart (Part.noShowOver slot)

/-- SPINDOWN_WAIT_EXPIRY (R36). -/
def execSpindownWaitExpiry (slot : SlotId) (s : State) : Host.Outcome State Fault Refusal :=
  s.onPart (Part.spindownExpiry slot)

/-! ### The lane -/

/-- LANE_COMMAND_SEND_END (R75). -/
def execLaneCommandSendEnd (slot : SlotId) (s : State) : Host.Outcome State Fault Refusal :=
  s.onPart (Part.commandSent slot)

/-- RESET_LANE_SEND_END (R74). -/
def execResetLaneSendEnd (slot : SlotId) (s : State) : Host.Outcome State Fault Refusal :=
  s.onPart (Part.resetSent slot)

/-- LANE_MESSAGE_DROPPED (R77). -/
def execLaneMessageDropped (slot : SlotId) (unit : List Byte) (s : State) : Host.Outcome State Fault Refusal :=
  s.onPart (Part.laneDropped slot unit)

/-- LANE_COMPLETION (R78). -/
def execLaneCompletion (slot : SlotId) (unit : List Byte) (s : State) : Host.Outcome State Fault Refusal :=
  s.onPart (Part.laneCompletion slot unit)

/-- LANE_READY (R84). -/
def execLaneReady (slot : SlotId) (s : State) : Host.Outcome State Fault Refusal :=
  s.onPart (Part.laneReady slot)

/-- COMMAND_TIMEOUT (R82). -/
def execCommandTimeout (slot : SlotId) (tag : Byte) (s : State) : Host.Outcome State Fault Refusal :=
  s.onPart (Part.commandTimeout slot tag)

/-- LANE_RECOVERY_WINDOW_EXPIRY (R85). -/
def execLaneRecoveryWindowExpiry (slot : SlotId) (s : State) : Host.Outcome State Fault Refusal :=
  s.onPart (Part.recoveryOver slot)

/-! ### Supervision -/

/-- CURRENT_FAULT (R138). -/
def execCurrentFault (slot : SlotId) (s : State) : Host.Outcome State Fault Refusal :=
  s.onPart (Part.currentFault slot)

/-- SILENCE_FIRST_EXPIRY (R162). -/
def execSilenceFirstExpiry (slot : SlotId) (s : State) : Host.Outcome State Fault Refusal :=
  s.onPart (Part.silenceFirst slot)

/-- SILENCE_SECOND_EXPIRY (R163). -/
def execSilenceSecondExpiry (slot : SlotId) (s : State) : Host.Outcome State Fault Refusal :=
  s.onPart (Part.silenceSecond slot)

/-- EJECT_LINE_CHANGE (R169). -/
def execEjectLineChange (slot : SlotId) (pressed : Bool) (s : State) : Host.Outcome State Fault Refusal :=
  s.onPart (Part.ejectLine slot pressed)

/-- EJECT_PRESSED (R169). -/
def execEjectPressed (slot : SlotId) (s : State) : Host.Outcome State Fault Refusal :=
  s.onPart (Part.ejectPress slot)

/-- EJECT_RELEASED (R169). -/
def execEjectReleased (slot : SlotId) (s : State) : Host.Outcome State Fault Refusal :=
  s.onPart (Part.ejectRelease slot)

/-- EJECT_HOLD_EXPIRY (R170). -/
def execEjectHoldExpiry (slot : SlotId) (s : State) : Host.Outcome State Fault Refusal :=
  s.onPart (Part.holdOver slot)

/-- DOOR_LINE_CHANGE (R171). -/
def execDoorLineChange (isOpen : Bool) (s : State) : Host.Outcome State Fault Refusal :=
  s.onPart (Part.doorLine isOpen)

/-- DOOR_CHANGED (R172). -/
def execDoorChanged (s : State) : Host.Outcome State Fault Refusal :=
  s.onPart (Part.doorEvent)

/-! ### Zones -/

/-- SENSOR_READ_TIMEOUT (R142). -/
def execSensorReadTimeout (s : State) : Host.Outcome State Fault Refusal :=
  s.onPart (Part.sensorTimeout)

/-- SENSOR_SAMPLE (R143). -/
def execSensorSample (answer : SensorAnswer) (s : State) : Host.Outcome State Fault Refusal :=
  s.onPart (Part.sensorSample answer)

/-- ALARM_TIMER_EXPIRY (R153). -/
def execAlarmTimerExpiry (zone : ZoneId) (s : State) : Host.Outcome State Fault Refusal :=
  s.onPart (Part.alarmOver zone)

end Sys2Proof.Machine
end

