-- ==== Sys2Proof/Machine/Dispatch.lean ====
section
/-! DEFINITION. The dispatch: one arm per command, each a direct call of its meaning. -/

namespace Sys2Proof.Machine

/-- The command's effect on everything but the queue. -/
def exec (i : Instr) (s : State) : Host.Outcome State Fault Refusal :=
  match i with
  | .powerOn strap presence eject doorOpen => Sys2Proof.Machine.execPowerOn strap presence eject doorOpen s
  | .configTransferTimeout ended => Sys2Proof.Machine.execConfigTransferTimeout ended s
  | .configImageLoadEnd acked => Sys2Proof.Machine.execConfigImageLoadEnd acked s
  | .trunkFrameReceived checkGood dest source etherType data => Sys2Proof.Machine.execTrunkFrameReceived checkGood dest source etherType data s
  | .unknownRequestCode => Sys2Proof.Machine.execUnknownRequestCode s
  | .readPartId => Sys2Proof.Machine.execReadPartId s
  | .loadEntry => Sys2Proof.Machine.execLoadEntry s
  | .readEntry => Sys2Proof.Machine.execReadEntry s
  | .readSlot => Sys2Proof.Machine.execReadSlot s
  | .readZone => Sys2Proof.Machine.execReadZone s
  | .readCounters => Sys2Proof.Machine.execReadCounters s
  | .startSlot => Sys2Proof.Machine.execStartSlot s
  | .stepDone => Sys2Proof.Machine.execStepDone s
  | .abortSlot => Sys2Proof.Machine.execAbortSlot s
  | .service => Sys2Proof.Machine.execService s
  | .toteSwap => Sys2Proof.Machine.execToteSwap s
  | .toteWithdraw => Sys2Proof.Machine.execToteWithdraw s
  | .resetTraffic => Sys2Proof.Machine.execResetTraffic s
  | .resetRack => Sys2Proof.Machine.execResetRack s
  | .transmitChoice => Sys2Proof.Machine.execTransmitChoice s
  | .frameSendEnd => Sys2Proof.Machine.execFrameSendEnd s
  | .linkUp => Sys2Proof.Machine.execLinkUp s
  | .linkDown => Sys2Proof.Machine.execLinkDown s
  | .timeBaseTick => Sys2Proof.Machine.execTimeBaseTick s
  | .slotSecondTick slot => Sys2Proof.Machine.execSlotSecondTick slot s
  | .stepTimeLimitExpiry slot => Sys2Proof.Machine.execStepTimeLimitExpiry slot s
  | .presenceLineChange slot present => Sys2Proof.Machine.execPresenceLineChange slot present s
  | .presenceArrival slot => Sys2Proof.Machine.execPresenceArrival slot s
  | .presenceLoss slot => Sys2Proof.Machine.execPresenceLoss slot s
  | .spinupWindowExpiry slot => Sys2Proof.Machine.execSpinupWindowExpiry slot s
  | .noShowWindowExpiry slot => Sys2Proof.Machine.execNoShowWindowExpiry slot s
  | .spindownWaitExpiry slot => Sys2Proof.Machine.execSpindownWaitExpiry slot s
  | .laneCommandSendEnd slot => Sys2Proof.Machine.execLaneCommandSendEnd slot s
  | .resetLaneSendEnd slot => Sys2Proof.Machine.execResetLaneSendEnd slot s
  | .laneMessageDropped slot unit => Sys2Proof.Machine.execLaneMessageDropped slot unit s
  | .laneCompletion slot unit => Sys2Proof.Machine.execLaneCompletion slot unit s
  | .laneReady slot => Sys2Proof.Machine.execLaneReady slot s
  | .commandTimeout slot tag => Sys2Proof.Machine.execCommandTimeout slot tag s
  | .laneRecoveryWindowExpiry slot => Sys2Proof.Machine.execLaneRecoveryWindowExpiry slot s
  | .currentFault slot => Sys2Proof.Machine.execCurrentFault slot s
  | .silenceFirstExpiry slot => Sys2Proof.Machine.execSilenceFirstExpiry slot s
  | .silenceSecondExpiry slot => Sys2Proof.Machine.execSilenceSecondExpiry slot s
  | .ejectLineChange slot pressed => Sys2Proof.Machine.execEjectLineChange slot pressed s
  | .ejectPressed slot => Sys2Proof.Machine.execEjectPressed slot s
  | .ejectReleased slot => Sys2Proof.Machine.execEjectReleased slot s
  | .ejectHoldExpiry slot => Sys2Proof.Machine.execEjectHoldExpiry slot s
  | .doorLineChange isOpen => Sys2Proof.Machine.execDoorLineChange isOpen s
  | .doorChanged => Sys2Proof.Machine.execDoorChanged s
  | .sensorReadTimeout => Sys2Proof.Machine.execSensorReadTimeout s
  | .sensorSample answer => Sys2Proof.Machine.execSensorSample answer s
  | .alarmTimerExpiry zone => Sys2Proof.Machine.execAlarmTimerExpiry zone s

end Sys2Proof.Machine
end

