-- ==== Sys2Proof/Safety.lean ====
section
/-! DEFINITION. What the statements speak of: the invariants of the part, the frames of a command, and which requests a command takes. -/

namespace Sys2Proof.Machine

/-! ### Invariants -/

/-- The slot's lamp pattern is that of its state (R40), and its power enable line is on exactly in the powered states (R126). -/
def Slot.Dressed (s : Slot) : Prop := s.lamp = lampOf s.state s.stage1 s.binLamp ∧ s.power = s.state.powered

/-- Every slot's lamp and power follow its state. -/
def Part.Dressed (p : Part) : Prop := ∀ i, (p.slot i).Dressed

/-- The ranges of an accumulator record (R91, R103). -/
def Accum.InRange (a : Accum) : Prop :=
  a.v ≤ 4294967295 ∧ a.u ≤ 65535 ∧ a.r ≤ 65535 ∧ a.c ≤ 65535 ∧ a.f ≤ 65535 ∧ a.s ≤ 65535 ∧ ∀ k : Fin 8, a.hist[k] ≤ 65535

/-- The ranges of a slot's counters (R90), of its test seconds (R18) and of its accumulator record. -/
def Slot.Counts (q : Slot) : Prop :=
  q.counters.accepted ≤ 65535 ∧ q.counters.refused ≤ 65535 ∧ q.counters.orphans ≤ 65535 ∧ q.counters.laneErrors ≤ 65535 ∧
    q.testSeconds ≤ 4294967295 ∧ q.acc.InRange

/-- The request and notice queues of the Trunk Port keep their capacities (R4, R193), and the run count (R11), the millisecond count (R47), the part counters (R16, R193, R196) and the counts of each slot their ranges. -/
def Part.Bounded (p : Part) : Prop :=
  p.trunk.requests.length ≤ 8 ∧ p.trunk.notices.length ≤ 64 ∧ p.trunk.runCount ≤ 8 ∧ p.ms < 1000 ∧
    p.trunk.badFrames ≤ 4294967295 ∧ p.trunk.badMessages ≤ 4294967295 ∧ p.trunk.requestsDropped ≤ 4294967295 ∧
    p.trunk.refusalsUnsent ≤ 4294967295 ∧ p.trunk.noticesLostTotal ≤ 4294967295 ∧
    p.trunk.entriesSkipped ≤ 4294967295 ∧ p.trunk.lostCount ≤ 65535 ∧ ∀ i, (p.slot i).Counts

/-- The completions in the upstream queue that were made for entries of slot `i` (R13). -/
def Part.entryCompletions (p : Part) (i : SlotId) : List Completion :=
  p.trunk.completions.filter fun c => c.forEntry && c.slot == i

/-- An outstanding list holds at most 8 entries with distinct tags, and none but in IDENT, where it can hold the probe, and in RUNNING, CONDEMNED and DRAINING, where it holds entries of the server (R73, R88); the lane is OPEN but in those three (R86), and the entry whose COMMAND is being sent is QUEUED (R73, R74). In these three the queued completions of the slot's entries are those of its DONE entries (R81, R82); no completion of the slot's entries waits from START_SLOT to IDENT's end (R23), and never more than 8. -/
def Part.ListSound (p : Part) (i : SlotId) : Prop :=
  let q := p.slot i
  let work := q.state = .running ∨ q.state = .condemned ∨ q.state = .draining
  q.outstanding.length ≤ 8 ∧ (q.outstanding.map (·.tag)).Nodup ∧
    (¬ work → q.state ≠ .ident → q.outstanding = []) ∧ (¬ work → q.lane = .opened) ∧
    (q.state = .ident → ∀ e ∈ q.outstanding, e.tag = 255) ∧ (work → ∀ e ∈ q.outstanding, e.tag ≠ 255) ∧
    (∀ tag unit, q.laneTx = .command tag unit → ∃ e ∈ q.outstanding, e.tag = tag ∧ e.state = .queued) ∧
    (work → ((p.entryCompletions i).map (·.tag)).Perm ((q.outstanding.filter (·.state == .done)).map (·.tag))) ∧
    (q.state = .powerWait ∨ q.state = .spinup ∨ q.state = .ident ∨ (q.state = .spindown ∧ q.retry = true) →
      p.entryCompletions i = []) ∧
    (p.entryCompletions i).length ≤ 8

/-- Every outstanding list is sound, and the upstream completion queue holds at most 64 refusal completions and at most 256 completions (R13). -/
def Part.ListsSound (p : Part) : Prop :=
  (∀ i, p.ListSound i) ∧ (p.trunk.completions.filter fun c => !c.forEntry).length ≤ 64 ∧ p.trunk.completions.length ≤ 256

/-- A tote's fill is at most its capacity, which is at most 60 (R175); an ABSENT tote is empty, an OPEN one is below its capacity with no slot waiting, and a FULL one is at it; the positions of a manifest are 1 to the fill, in order (R177). -/
def Part.TotesSound (p : Part) : Prop :=
  ∀ t : ToteId,
    let x := p.tote t
    let fill := x.manifest.length
    p.tables.capacities[t] ≤ 60 ∧ x.manifest.map (·.position) = List.range' 1 fill ∧
      (match x.state with
       | .absent => x.manifest = []
       | .opened => fill < p.tables.capacities[t] ∧ x.wait = []
       | .full => fill = p.tables.capacities[t])

/-- Each zone is in the state that is the first row of Table 8-3 whose condition holds (R146). -/
def Part.ZonesJudged (p : Part) : Prop := ∀ z, (p.zone z).state = (p.zone z).judged p.door.value

/-- A slot is in the spin-up queue exactly when it is in POWER_WAIT, once (R128); the spin-up count is the number of slots in SPINUP (section 7.1); and a slot is in a tote's wait queue exactly when it is in TOTE_WAIT with that tote in its record, once (R181). -/
def Part.QueuesSound (p : Part) : Prop :=
  p.spinQueue.Nodup ∧ (∀ i, i ∈ p.spinQueue ↔ (p.slot i).state = .powerWait) ∧
    p.spinCount = (allSlots.filter fun i => (p.slot i).state == .spinup).length ∧
    (∀ t, (p.tote t).wait.Nodup) ∧
    (∀ t i, i ∈ (p.tote t).wait ↔ (p.slot i).state = .toteWait ∧ (p.slot i).tote = some t)

/-- The stored range of a class entry (R67). -/
def ClassEntry.InRange (e : ClassEntry) : Prop := 1 ≤ e.timeout ∧ e.timeout ≤ 6000 ∧ 1 ≤ e.slow ∧ e.slow ≤ 65535

/-- The range of a recipe entry (R50). -/
def RecipeEntry.InRange (e : RecipeEntry) : Prop := e.first ≤ 127 ∧ e.count ≤ 16 ∧ e.first + e.count ≤ 128

/-- The stored range of a step entry (R51), but for the fields every value of which is valid. -/
def StepEntry.InRange (e : StepEntry) : Prop :=
  (e.setPoint = 0 ∨ (40 ≤ e.setPoint ∧ e.setPoint ≤ 170)) ∧ e.tolerance ≤ 40 ∧ 1 ≤ e.ramp ∧ e.ramp ≤ 40 ∧
    (e.limit = 0 ∨ e.dwell ≤ e.limit) ∧ e.silence ≤ 3600

/-- The rack settings fit the fields of their layout (Table 12-4). -/
def RackSettings.Fits (e : RackSettings) : Prop :=
  e.budget < 256 ∧ e.spinupWindow < 256 ∧ e.spindownWait < 256 ∧ e.recoveryMax < 256 ∧ e.recoveryWindow < 256 ∧
    e.retestMax < 256 ∧ e.hardLimit < 65536 ∧ e.tripTime < 65536 ∧ e.kp < 256 ∧ e.ki < 256 ∧ e.imax < 65536 ∧
    e.fanBase < 256 ∧ e.fanBand < 256 ∧ e.noShowWindow < 65536 ∧ e.ejectHold < 256

/-- A limit set fits the fields of its layout (Table 12-4). -/
def LimitSet.Fits (e : LimitSet) : Prop :=
  e.wu < 256 ∧ e.wr < 256 ∧ e.wc < 256 ∧ e.wf < 256 ∧ e.ws < 256 ∧ e.t1 < 65536 ∧ e.t2 < 65536 ∧ e.t3 < 65536 ∧
    e.t4 < 65536 ∧ e.t5 < 65536 ∧ e.t6 < 65536 ∧ e.vmin < 4294967296 ∧ e.cap < 65536 ∧ e.bt < 256 ∧ e.p < 65536

/-- The stored range of a limit set (R108), but for the fields every value of which is valid. -/
def LimitSet.InRange (e : LimitSet) : Prop :=
  e.t1 ≤ e.t2 ∧ e.t2 ≤ e.t3 ∧ e.t3 ≤ e.t4 ∧ e.t4 ≤ e.t5 ∧ e.t5 ≤ e.t6 ∧ e.bt ≤ 7 ∧ e.p ≤ 1000

/-- The stored ranges of the rack settings (Table 11-2, Table 8-4). -/
def RackSettings.InRange (e : RackSettings) : Prop :=
  0x0600 ≤ e.trunkType.toNat ∧ (1 ≤ e.budget ∧ e.budget ≤ 8) ∧ (2 ≤ e.spinupWindow ∧ e.spinupWindow ≤ 60) ∧
    e.spindownWait ≤ 120 ∧ e.recoveryMax ≤ 15 ∧ (1 ≤ e.recoveryWindow ∧ e.recoveryWindow ≤ 120) ∧ e.retestMax ≤ 3 ∧
    (100 ≤ e.hardLimit ∧ e.hardLimit ≤ 200) ∧ (10 ≤ e.tripTime ∧ e.tripTime ≤ 600) ∧ e.kp ≤ 63 ∧ e.ki ≤ 63 ∧
    e.imax ≤ 4096 ∧ e.fanBase ≤ 100 ∧ e.fanBand ≤ 40 ∧ (5 ≤ e.noShowWindow ∧ e.noShowWindow ≤ 300) ∧
    (1 ≤ e.ejectHold ∧ e.ejectHold ≤ 10)

/-- Every entry of the Table Store is in its stored range, and valid filter codes are distinct (R68). -/
def TableStore.InRange (t : TableStore) : Prop :=
  (∀ k : Fin 8, t.classes[k].InRange) ∧ (∀ k : Fin 16, t.recipes[k].InRange) ∧ (∀ k : Fin 128, t.steps[k].InRange) ∧
    (∀ k : Fin 8, t.limits[k].InRange) ∧ (∀ k : Fin 8, 1 ≤ t.capacities[k]) ∧ (∀ k : Fin 18, t.levels[k] ≤ 7) ∧
    t.rack.InRange ∧
    (∀ j k : Fin 64, t.filters[j].valid = true → t.filters[k].valid = true → t.filters[j].code = t.filters[k].code → j = k)

/-! ### Frames -/

/-- Everything is as it was but slot `i`'s record and the Trunk Port; the model's own numbers are not looked at. -/
def Part.SameButSlot (i : SlotId) (p p' : Part) : Prop :=
  (∀ k, k ≠ i → p'.slot k = p.slot k) ∧ p'.loader = p.loader ∧ p'.busRead = p.busRead ∧ p'.serving = p.serving ∧
    p'.tables = p.tables ∧ p'.spinQueue = p.spinQueue ∧ p'.spinCount = p.spinCount ∧ p'.zones = p.zones ∧
    p'.totes = p.totes ∧ p'.seconds = p.seconds ∧ p'.ms = p.ms ∧ p'.door = p.door

/-- The Trunk Port is as it was but for the notice queue, the lost record and NOTICES_LOST_TOTAL. -/
def TrunkPort.SameButNotices (t t' : TrunkPort) : Prop :=
  t' = { t with notices := t'.notices, lostCount := t'.lostCount, lostHighest := t'.lostHighest,
                noticesLostTotal := t'.noticesLostTotal }

/-- The slot at which a command is an event, for the commands that name one. -/
def slotOf (c : Instr) : Option SlotId :=
  match c with
  | .slotSecondTick i | .stepTimeLimitExpiry i | .presenceLineChange i _ | .presenceArrival i | .presenceLoss i
  | .spinupWindowExpiry i | .noShowWindowExpiry i | .spindownWaitExpiry i | .laneCommandSendEnd i
  | .resetLaneSendEnd i | .laneMessageDropped i _ | .laneCompletion i _ | .laneReady i | .commandTimeout i _
  | .laneRecoveryWindowExpiry i | .currentFault i | .silenceFirstExpiry i | .silenceSecondExpiry i
  | .ejectLineChange i _ | .ejectPressed i | .ejectReleased i | .ejectHoldExpiry i => some i
  | _ => none

/-- What an OPEN lane's transmitter is doing once it has considered the list (R74): an idle one begins the COMMAND of the oldest QUEUED entry. -/
def Slot.takesUp (q : Slot) : LaneTx :=
  if q.laneTx = .idle then
    match q.outstanding.find? fun e => e.state == .queued with
    | none => .idle
    | some e => .command e.tag (commandUnit e.tag e.code e.body)
  else q.laneTx

/-- The lane of a slot before and after a reset (R45, R46, R74, R76): RESET_LANE is being sent where a drive is present; a COMMAND being sent is cut short all the same, after some of its bytes (log entries 10, 20). -/
def LaneReset (q q' : Slot) : Prop :=
  (q.presence.value = true → q'.laneTx = .resetLane) ∧
  (∀ tag unit, q.laneTx = .command tag unit →
    (q.presence.value = false → q'.laneTx = .idle) ∧
    ∃ n, n ≤ unit.length - 1 ∧ q'.laneOut = some (.cutShort (cutUnit unit n))) ∧
  ((∀ tag unit, q.laneTx ≠ .command tag unit) →
    q'.laneOut = q.laneOut ∧ (q.presence.value = false → q'.laneTx = q.laneTx))

/-- A slot's record after it has entered EMPTY (column "On entering EMPTY" of Table 2-1, R17, R73): what it holds of its lane's transmitter, its lines, the eject hold, the sticky conditions, the counters and the accumulators stays. -/
def Slot.emptied (q : Slot) : Slot :=
  { state := .empty, recipe := none, stepIndex := 0, elapsed := 0, dwell := 0, stepDone := false, shortfall := 0,
    retests := 0, disposition := none, reason := .none, density := none, identity := none, retry := false,
    stage1 := false, silenceTimer := none, tote := none, position := none, lane := .opened, recoveries := 0,
    lamp := ⟨.off, .steady⟩, binLamp := none, sticky := q.sticky, counters := q.counters, testSeconds := 0,
    outstanding := [], laneTx := q.laneTx, laneOut := q.laneOut, noShowTimer := none, recoveryTimer := none,
    presence := q.presence, eject := q.eject, hold := q.hold, holdTimer := q.holdTimer, power := false,
    spinupTimer := none, spindownTimer := none, acc := q.acc, ticksDue := q.ticksDue }

/-! ### Requests -/

/-- Does the command take the request (R6)? The other commands take none. -/
def takes (c : Instr) (r : Request) : Bool :=
  match c with
  | .unknownRequestCode => r.unknown
  | .readPartId => r.isReq .readPartId
  | .loadEntry => r.isReq .loadEntry
  | .readEntry => r.isReq .readEntry
  | .readSlot => r.isReq .readSlot
  | .readZone => r.isReq .readZone
  | .readCounters => r.isReq .readCounters
  | .startSlot => r.isReq .startSlot
  | .stepDone => r.isReq .stepDone
  | .abortSlot => r.isReq .abortSlot
  | .service => r.isReq .service
  | .toteSwap => r.isReq .toteSwap
  | .toteWithdraw => r.isReq .toteWithdraw
  | .resetTraffic => r.isReq .resetTraffic
  | .resetRack => r.isReq .resetRack
  | _ => false

/-- The state with another part; its queue is as it was. -/
def State.put (s : State) (p : Part) : State := { s with part := p }

/-- The part right after the Management Unit has taken the request at the head: it is being served, and the server address is its source (R2, R4, R6). -/
def Part.taken (r : Request) (rest : List Request) (p : Part) : Part :=
  { p with serving := some r, trunk := { p.trunk with requests := rest, server := r.source } }

/-- The part with a response placed (R5, R6). -/
def Part.respond (resp : Response) (p : Part) : Part := { p with trunk := { p.trunk with response := some resp } }

/-- The request at the head is about to be taken in READY: the place is empty (R5). -/
def Part.Head (r : Request) (rest : List Request) (p : Part) : Prop :=
  p.loader.phase = .ready ∧ p.trunk.response = none ∧ p.trunk.requests = r :: rest

/-- A MGMT_RESPONSE to a request with status OK (R7). -/
def okTo (r : Request) (clamped : Bool) (content : List Byte) : Response := ⟨r.slot, r.tag, .ok, clamped, content⟩

/-- A MGMT_RESPONSE to a request with another status (R7). -/
def noTo (r : Request) (st : RespStatus) : Response := ⟨r.slot, r.tag, st, false, []⟩

/-- A frame that the Trunk Port accepts and whose data field is a message with padding (R1, R3). -/
def frameOf (p : Part) (source : Mac) (msg pad : List Byte) : Instr :=
  .trunkFrameReceived true p.trunk.station source p.tables.rack.trunkType (msg ++ pad)

/-! ### The configuration image -/

/-- The bytes of an image (section 12.5): the header, with the check of every byte but the check itself, and the records, each after its length. -/
def imageOf (station : Mac) (trunkType : BitVec 16) (records : List (List Byte)) : List Byte :=
  let body := records.flatMap fun r => beBytes 2 r.length ++ r
  let front := beBytes 2 0x4A46 ++ beBytes 2 (14 + body.length)
  let back := beBytes 6 station.toNat ++ beBytes 2 trunkType.toNat ++ body
  front ++ beBytes 2 (laneSum (front ++ back)) ++ back

/-! ### Early ends and grants -/

/-- No slot waits for a grant that could be made (R129, R130): the queue is empty, or the budget is used up, or the door is open. -/
def Part.NoGrantWaits (p : Part) : Prop :=
  p.spinQueue = [] ∨ p.tables.rack.budget ≤ p.spinCount ∨ p.door.value = true

/-- What an early end leaves of slot `i` (R31, R32, R35, R126), before and after: its list emptied, the lane OPEN with RESET_LANE being sent, its test timers stopped, its power off, the pair of the cause recorded unless one was, the retry flag clear; in SPINDOWN with the wait started, or past it where the wait is 0. -/
def EndedEarly (i : SlotId) (c : Cause) (p t : Part) : Prop :=
  let s := p.slot i
  let s' := t.slot i
  s'.outstanding = [] ∧ s'.lane = .opened ∧ s'.laneTx = .resetLane ∧ s'.recoveryTimer = none ∧
  s'.noShowTimer = none ∧ s'.silenceTimer = none ∧ s'.stage1 = false ∧ s'.spinupTimer = none ∧
  s'.power = false ∧ s'.retry = false ∧
  s'.disposition = some (s.disposition.getD c.disposition) ∧
  s'.reason = (if s.disposition = none then c.reason else s.reason) ∧
  (0 < p.tables.rack.spindownWait → s'.state = .spindown ∧ s'.lamp = ⟨.amber, .hz1⟩ ∧
    s'.spindownTimer = some ⟨p.tables.rack.spindownWait, 0⟩) ∧
  (p.tables.rack.spindownWait = 0 → (s'.state = .toteWait ∨ s'.state = .unloadReady) ∧ s'.spindownTimer = none)

/-- The completions an early end or a presence loss makes (R31, R38, R80): one for each entry of the slot that is not DONE and not the identity probe, oldest first. -/
def Part.endCompletions (p : Part) (i : SlotId) (st : Status) : List Completion :=
  ((p.slot i).outstanding.filter fun e => e.state != .done && e.tag != 255).map fun e =>
    { slot := i, tag := e.tag, status := st, delta := 0, coverage := 0, identity := none, latency := 0,
      step := e.step, cls := e.cls, forEntry := true }

/-! ### Where a grant and the end of the spin-down wait lead -/

/-- How many grants the budget and the door leave room for at a spin-up count (R129). -/
def Part.grantRoom (p : Part) (count : Nat) : Nat := if p.door.value then 0 else p.tables.rack.budget - count

/-- A record whose slot is granted (R24, R40, R133): in SPINUP with power on and the window started, doubled on a retry. -/
def Part.granted (p : Part) (q : Slot) : Slot :=
  { q with
    state := .spinup
    lamp := ⟨.green, .hz2⟩
    power := true
    spinupTimer := some ⟨if q.retry then 2 * p.tables.rack.spinupWindow else p.tables.rack.spinupWindow, 0⟩ }

/-- The part `t` is left by an occasion for a grant (R129, R130) that finds the budget and the door of `p`, the given queue and spin-up count, and the slots as `base` gives them: the first slots of the queue, as many as there is room for, are granted. -/
def Grants (p : Part) (queue : List SlotId) (count : Nat) (base : SlotId → Slot) (t : Part) : Prop :=
  let n := p.grantRoom count
  t.spinQueue = queue.drop n ∧ t.spinCount = count + min n queue.length ∧
    ∀ i, t.slot i = if i ∈ queue.take n then p.granted (base i) else base i

/-- A record at the end of its spin-down wait with its retry flag clear (R36, R37, R40, R175, R179 to R181): the bin of its disposition names its tote and lamp; it is in UNLOAD_READY at the next place of an OPEN tote, and in TOTE_WAIT otherwise. -/
def Part.sorted (p : Part) (q : Slot) : Slot :=
  let b := p.tables.bins[q.disposition.getD 8]
  let place := decide ((p.tote b.tote).state = .opened)
  { q with
    spindownTimer := none
    tote := some b.tote
    binLamp := some ⟨b.colour, b.blink⟩
    position := if place then some ((p.tote b.tote).manifest.length + 1) else q.position
    state := if place then .unloadReady else .toteWait
    lamp := ⟨b.colour, if place then b.blink else .hz1⟩
    power := false }

/-- A record that enters SPINDOWN, its retry flag clear (R36, R40, R126, R135): the wait started, or past it where the wait is 0. -/
def Part.spunDown (p : Part) (q : Slot) : Slot :=
  if p.tables.rack.spindownWait = 0 then p.sorted q
  else { q with state := .spindown, lamp := ⟨.amber, .hz1⟩, power := false,
                spindownTimer := some ⟨p.tables.rack.spindownWait, 0⟩ }

/-- A no-show in IDENT leaves slot `i` of `p` in `t` (R27, R35, R40, R86, R126, R133, R135): the list emptied, RESET_LANE being sent, the retry flag set by the first and cleared by the second, which records 7, NO_SHOW; in SPINDOWN, or past it where the wait is 0. `p` gives the spin-up queue and count that the rejoining slot finds. -/
def NoShow (i : SlotId) (p t : Part) : Prop :=
  let q := p.slot i
  let x : Slot := { q with
    outstanding := []
    noShowTimer := none
    lane := .opened
    recoveryTimer := none
    laneTx := .resetLane
    laneOut := (t.slot i).laneOut
    retry := !q.retry
    disposition := if q.retry then some (q.disposition.getD 7) else q.disposition
    reason := if q.retry ∧ q.disposition = none then .noShow else q.reason }
  (0 < p.tables.rack.spindownWait ∨ q.retry = true → t.slot i = p.spunDown x) ∧
  (p.tables.rack.spindownWait = 0 → q.retry = false → Grants p (p.spinQueue ++ [i]) p.spinCount
    (fun k => if k = i then { x with state := .powerWait, lamp := ⟨.green, .hz1⟩, power := false, spindownTimer := none }
      else p.slot k) t)

/-! ### Where a step entry and the end of DRAINING lead -/

/-- Does position `k` of the slot's recipe end at its entry (R55, item 5)? -/
def Part.zeroDwell (p : Part) (i : SlotId) (k : Nat) : Bool :=
  match p.stepAt i k with
  | none => false
  | some e => e.advance == .dwell && e.dwell == 0

/-- Where a step entry at position `k` comes to rest (R55): at the first position from there on that does not end at its entry, if there is one. -/
def Part.landing (p : Part) (i : SlotId) (k : Nat) : Option Nat :=
  (List.range' k (max 1 (p.stepCount i - k))).find? fun j => !p.zeroDwell i j

/-- The slot's record with the fields of a step entry at position `k` (R55, items 2 to 4). -/
def Part.inStep (p : Part) (i : SlotId) (k : Nat) : Slot :=
  { p.slot i with
    stepIndex := k
    elapsed := 0
    dwell := 0
    stepDone := false
    stage1 := false
    silenceTimer := match p.stepAt i k with
      | none => none
      | some e => if e.silence = 0 then none else some ⟨e.silence, 0⟩ }

/-- Slot `i` of `t` has the record `q`, but for ZONE_ALARM_SEEN; and all of it where the zones of `p` are judged (an invariant), since an offer then enters no ALARM and latches nothing (R42). -/
def SlotBecomes (i : SlotId) (q : Slot) (p t : Part) : Prop :=
  t.slot i = { q with sticky := { q.sticky with zoneAlarmSeen := (t.slot i).sticky.zoneAlarmSeen } } ∧
    (p.ZonesJudged → t.slot i = q)

/-- A step entry at position `k` comes to rest in RUNNING at position `j` (R26, R40, R55, R60). -/
def RunsAt (i : SlotId) (k : Nat) (p t : Part) : Prop :=
  ∀ j, p.landing i k = some j →
    SlotBecomes i { p.inStep i j with state := .running, lamp := ⟨.green, .steady⟩, power := true } p t

/-- The slot's record in DRAINING, from a step that it leaves (R29, R40, R126, R160). -/
def Slot.inDraining (q : Slot) : Slot :=
  { q with state := .draining, stage1 := false, silenceTimer := none, lamp := ⟨.green, .hz1⟩, power := true }

/-- Slot `i`, in `p` in DRAINING with an empty list, ends DRAINING (R30, R86, R117, R121, R126, R135): the grade is recorded unless a pair stands; a retest clears the result and enters step 0 of the retest recipe, and where its every step ends at its entry (R55) the slot is in DRAINING again, which ends as `again` says; without a retest the lane is OPEN and the slot is in SPINDOWN. -/
def DrainingLeads (i : SlotId) (again : Part → Part → Prop) (p t : Part) : Prop :=
  let q := p.slot i
  let g := p.graded i
  let rack := p.tables.rack
  let retest := if g.disposition = 8 ∨ rack.retestMax ≤ q.retests then none
    else p.tables.bins[g.disposition].retest.filter fun r => p.tables.recipes[r].count ≠ 0
  (∀ r, retest = some r →
    let x := p.modSlot i fun _ => { q with
      recipe := some r
      retests := q.retests + 1
      acc := ⟨0, 0, 0, 0, 0, 0, Vector.replicate 8 0, false⟩
      shortfall := 0
      disposition := none
      reason := .none
      density := none }
    RunsAt i 0 x t ∧
      (x.landing i 0 = none → again (x.modSlot i fun _ => (x.inStep i (x.stepCount i - 1)).inDraining) t)) ∧
  (retest = none → q.retry = false ∨ 0 < rack.spindownWait → SlotBecomes i (p.spunDown { q with
    disposition := some g.disposition
    reason := g.reason
    density := if q.disposition = none then g.density else q.density
    lane := .opened
    recoveryTimer := none }) p t)

/-- The end of DRAINING with its retests that come straight back to DRAINING, up to `n` ends. -/
def DrainingEndsWithin (i : SlotId) : Nat → Part → Part → Prop
  | 0, _, _ => True
  | n + 1, p, t => DrainingLeads i (DrainingEndsWithin i n) p t

/-- Slot `i`, in `p` in DRAINING with an empty list, ends DRAINING (R30); the retest maximum bounds its retests (R121). -/
def DrainingEnds (i : SlotId) (p t : Part) : Prop := DrainingEndsWithin i (p.tables.rack.retestMax + 1) p t

/-- Slot `i` enters DRAINING (R29, R40, R160), which ends at once on an empty list (R30). -/
def Drains (i : SlotId) (p t : Part) : Prop :=
  let q := p.slot i
  (q.outstanding ≠ [] → SlotBecomes i q.inDraining p t) ∧
    (q.outstanding = [] → DrainingEnds i (p.modSlot i fun _ => q.inDraining) t)

/-- Slot `i` enters the step at position `k` (R55): it comes to rest in a step, or in DRAINING where every step from there on ends at its entry. -/
def EntersStep (i : SlotId) (k : Nat) (p t : Part) : Prop :=
  RunsAt i k p t ∧ (p.landing i k = none → Drains i (p.modSlot i fun _ => p.inStep i (max k (p.stepCount i - 1))) t)

/-- The step that slot `i` of `p` is in, in RUNNING or CONDEMNED, ends by its advance condition or its time limit (R29, R60): the next step, or DRAINING after the recipe's last step and in CONDEMNED. -/
def StepEnds (i : SlotId) (p t : Part) : Prop :=
  let q := p.slot i
  (q.state = .running → q.stepIndex + 1 < p.stepCount i → EntersStep i (q.stepIndex + 1) p t) ∧
  (q.state = .condemned ∨ p.stepCount i ≤ q.stepIndex + 1 → Drains i p t)

end Sys2Proof.Machine
end

