-- ==== Sys2Proof/Certificates/Slice0/Obligations.lean ====
section
/-! DEFINITION. The statements for the provers: what the rules of spec/ say of the model, command by command, then the frames and the invariants. -/

open Sys2Proof Sys2Proof.Machine

/-! ### The machine -/

/-- A step takes the command at the front of the queue and is that command's effect over the queue's rest; an empty queue idles (log entry 5: DESIGN CHOICE). -/
def Obligations.StepTakesTheFront : Prop :=
  (∀ (c : Instr) (rest : List Instr) (s : State), s.pending = c :: rest → step s = exec c { s with pending := rest }) ∧
  (∀ s : State, s.pending = [] → step s = .next s)

/-- Every command in every state ends in a next state, with the queue as it was: the part has no fault and refuses nothing. It is the model's choice that a command whose event cannot happen has no effect (log entry 2: DESIGN CHOICE), and what the commands do in states that no run reaches and on operands that are not well formed (log entries 19 and 21: DESIGN CHOICE). -/
def Obligations.EveryCommandAnswersNext : Prop :=
  ∀ (c : Instr) (s : State), ∃ p : Part, exec c s = .next (s.put p)

/-! ### Power-on and loading -/

/-- POWER_ON (R198) outside the slots and the tables: LOADING with the straps sampled (R2, R10), the Trunk Port (R2, R4, R5, R11, R13, R16, R195, R196), the counts (R47), the door (R171), the spin-up queue (R140), the zones (R158, Table 8-1), the totes (R190). Slots: POWER_ON at every slot (R44, R92, R173): EMPTY, every field at its "On entering EMPTY" value, sticky conditions clear, counters 0, lane OPEN, lamp OFF, presence ABSENT and the eject button RELEASED with their debounces started where the raw line differs, every timer stopped, power off. Tables: POWER_ON in the Table Store: the defaults of R50, R51, R67, R68, R108, R174, R175, R192, R200 and Tables 11-1, 11-2 and 8-4. The model's own: the loader's count of ticks at 0 (log entry 11), the blink STEADY of a lamp that is OFF (14), the held duty 0 of the heater drive (33), no 1 s tick due to a slot (4), and no last frame or lane unit (20). -/
def Obligations.PowerOnLeaves : Prop :=
  ∀ (strap : BitVec 6) (presence eject : BitVec 24) (doorOpen : Bool) (s : State), ∃ p : Part,
    exec (.powerOn strap presence eject doorOpen) s = .next (s.put p) ∧
    p.loader = ⟨.loading, strap, none, 0, 0, none, 0⟩ ∧ p.busRead = none ∧ p.serving = none ∧
    p.trunk.station.toNat = 0x024A46000000 + strap.toNat ∧
    p.trunk = { station := p.trunk.station, server := 0xFFFFFFFFFFFF, requests := [], response := none,
                completions := [], notices := [], linkUp := false, runCount := 0, tx := .idle, lastFrame := none,
                badFrames := 0, badMessages := 0, requestsDropped := 0, refusalsUnsent := 0, noticesLostTotal := 0,
                entriesSkipped := 0, lostCount := 0, lostHighest := none } ∧
    p.spinQueue = [] ∧ p.spinCount = 0 ∧ p.seconds = 0 ∧ p.ms = 0 ∧
    p.door = ⟨doorOpen, true, if doorOpen then none else some ⟨250, 0⟩⟩ ∧
    (∀ z, p.zone z = { state := .held, temperature := none, lastSample := none, invalidRun := 0, validRun := 0,
                       sensorFault := false, request := none, target := none, rampAcc := 0, integral := 0, duty := 0,
                       heldDuty := 0, fan := 40, alarm := .stopped }) ∧
    (∀ k, p.tote k = ⟨.absent, [], []⟩) ∧
    (∀ k : Fin 8, p.tables.classes[k] = ⟨100, 50, false, false⟩) ∧
    (∀ k : Fin 64, p.tables.filters[k] = ⟨false, 0, 0⟩) ∧
    (∀ k : Fin 16, p.tables.recipes[k] = ⟨0, 0, 0⟩) ∧
    (∀ k : Fin 128, p.tables.steps[k] = ⟨false, 0, 0, 0, 1, 0, .dwell, 0, 0, false⟩) ∧
    (∀ k : Fin 8, p.tables.limits[k] = ⟨0, 0, 0, 0, 0, 65535, 65535, 65535, 65535, 65535, 65535, 0, 65535, 7, 1000⟩) ∧
    (∀ k : Fin 7, p.tables.bins[k.val] = ⟨⟨k.val, by omega⟩, .green, .steady, none⟩) ∧
    p.tables.bins[7] = ⟨7, .amber, .steady, none⟩ ∧ p.tables.bins[8] = ⟨7, .both, .steady, none⟩ ∧
    (∀ k : Fin 8, p.tables.capacities[k] = 20) ∧
    p.tables.levels = #v[2, 3, 2, 4, 6, 5, 4, 5, 6, 6, 5, 4, 7, 7, 4, 3, 7, 1] ∧
    p.tables.rack = { trunkType := 0x88B5, enables := 0xFFFFFF, budget := 4, spinupWindow := 8, spindownWait := 20,
                      recoveryMax := 3, recoveryWindow := 10, retestMax := 1, hardLimit := 150, tripTime := 120,
                      kp := 12, ki := 20, imax := 2048, fanBase := 40, fanBand := 6, noShowWindow := 30, ejectHold := 3 } ∧
    (∀ i : SlotId, p.slot i =
      { state := .empty, recipe := none, stepIndex := 0, elapsed := 0, dwell := 0, stepDone := false, shortfall := 0,
        retests := 0, disposition := none, reason := .none, density := none, identity := none, retry := false,
        stage1 := false, silenceTimer := none, tote := none, position := none, lane := .opened, recoveries := 0,
        lamp := ⟨.off, .steady⟩, binLamp := none, sticky := ⟨false, false, false, false, false, false⟩,
        counters := ⟨0, 0, 0, 0⟩, testSeconds := 0, outstanding := [], laneTx := .idle, laneOut := none,
        noShowTimer := none, recoveryTimer := none,
        presence := ⟨presence[i], false, if presence[i] then some ⟨250, 0⟩ else none⟩,
        eject := ⟨eject[i], false, if eject[i] then some ⟨50, 0⟩ else none⟩,
        hold := .idle, holdTimer := none, power := false, spinupTimer := none, spindownTimer := none,
        acc := ⟨0, 0, 0, 0, 0, 0, Vector.replicate 8 0, false⟩, ticksDue := 0 })

/-- A transfer of the loader that has not ended 50 ms after it began is ended as not acknowledged (R197): the first that is decides, and the command has no effect before the 50 ms, after another such transfer, or in READY (log entries 2 and 11). The verdict (R197): ABSENT where the marker was not read, CHECK_FAILED where another read was not acknowledged, a bound, the sum or the structure fails, and APPLIED otherwise. The end of LOADING with an image that was not applied (R199, R21), with an empty spin-up queue: READY with the outcome, each enabled slot whose debounced presence is PRESENT is SEATED, the other slots and the tables are as they were, and only notices are raised. The end of LOADING with an image that passes (R199, R2): its trunk type value, unless 0 or below 0x0600, then each record in turn as a LOAD_ENTRY with that body, counted as applied or skipped, then its station address, unless 0; the part is READY with the outcome APPLIED, and each slot that is EMPTY and enabled by the settings then in force and whose debounced presence is PRESENT is SEATED (R21), the others being as the records left them, which is as they were where every slot was EMPTY; the seating in the settings in force and not on the record is log entry 28 (DEDUCED). A LOAD_ENTRY request of at least 2 bytes comes to the same as such a record (R8). -/
def Obligations.ImageLoadEnds : Prop :=
  (∀ (x : EndedTransfer) (s : State),
    let l := s.part.loader
    (l.phase = .loading → l.failedRead = none → x.began + 50 ≤ l.counted → exec (.configTransferTimeout x) s =
      .next (s.put { s.part with loader := { l with failedRead := some x.acked } })) ∧
    (l.phase = .ready ∨ l.failedRead ≠ none ∨ l.counted < x.began + 50 → exec (.configTransferTimeout x) s = .next s)) ∧
  (∀ (l : Loader) (acked a : List Byte), l.failedRead = some a →
    (a.length < 2 ∨ field a 0 2 ≠ 0x4A46 → l.verdict acked = .absent) ∧
    (2 ≤ a.length → field a 0 2 = 0x4A46 → l.verdict acked = .checkFailed)) ∧
  (∀ (l : Loader) (acked : List Byte), l.failedRead = none →
    let len := field acked 2 2
    let img := acked.take len
    let good := 14 ≤ len ∧ len ≤ 16384 ∧ len ≤ acked.length ∧ laneSum (img.take 4 ++ img.drop 6) = field acked 4 2 ∧
      ∃ records : List (List Byte), (∀ r ∈ records, r.length < 65536) ∧
        img.drop 14 = records.flatMap fun r => beBytes 2 r.length ++ r
    (acked.length < 2 ∨ field acked 0 2 ≠ 0x4A46 → l.verdict acked = .absent) ∧
    (2 ≤ acked.length → field acked 0 2 = 0x4A46 → ¬ good → l.verdict acked = .checkFailed) ∧
    (2 ≤ acked.length → field acked 0 2 = 0x4A46 → good → l.verdict acked = .applied)) ∧
  (∀ (acked : List Byte) (s : State), s.part.loader.phase = .loading → s.part.spinQueue = [] →
    s.part.loader.verdict acked ≠ .applied →
    ∃ p : Part, exec (.configImageLoadEnd acked) s = .next (s.put p) ∧
      p.loader = { s.part.loader with phase := .ready, outcome := some (s.part.loader.verdict acked) } ∧
      (∀ i, p.slot i =
        if (s.part.slot i).state = .empty ∧ s.part.tables.rack.enables[i] = true ∧ (s.part.slot i).presence.value = true then
          { s.part.slot i with state := .seated, lamp := ⟨.amber, .steady⟩, power := false }
        else s.part.slot i) ∧
      p.tables = s.part.tables ∧ p.spinQueue = [] ∧ p.spinCount = s.part.spinCount ∧ p.zones = s.part.zones ∧
      p.totes = s.part.totes ∧ p.seconds = s.part.seconds ∧ p.ms = s.part.ms ∧ p.door = s.part.door ∧
      p.busRead = s.part.busRead ∧ p.serving = s.part.serving ∧ s.part.trunk.SameButNotices p.trunk) ∧
  (∀ (station : Mac) (trunkType : BitVec 16) (records : List (List Byte)) (s : State),
     (∀ r ∈ records, r.length < 65536) → (imageOf station trunkType records).length ≤ 16384 →
     s.part.loader.phase = .loading → s.part.loader.failedRead = none →
     let skip (q : Part) : Part := { q with
       loader := { q.loader with skipped := q.loader.skipped + 1 }
       trunk := { q.trunk with entriesSkipped := min 4294967295 (q.trunk.entriesSkipped + 1) } }
     let apply (q : Part) (r : List Byte) : Part :=
       if (q.load r).status = .ok then
         { (q.load r).part with
           loader := { (q.load r).part.loader with applied := (q.load r).part.loader.applied + 1 } }
       else skip q
     let q0 := if trunkType = 0 then s.part else if trunkType.toNat < 0x0600 then skip s.part
       else { s.part with tables := { s.part.tables with rack := { s.part.tables.rack with trunkType := trunkType } } }
     let q := records.foldl apply q0
     ∃ p : Part, exec (.configImageLoadEnd (imageOf station trunkType records)) s = .next (s.put p) ∧
       p.loader = { q.loader with phase := .ready, outcome := some .applied } ∧ p.tables = q.tables ∧
       p.trunk.entriesSkipped = q.trunk.entriesSkipped ∧
       p.trunk.station = (if station = 0 then s.part.trunk.station else station) ∧
       (let seats (x : Slot) (i : SlotId) : Slot :=
          if x.state = .empty ∧ q.tables.rack.enables[i] = true ∧ x.presence.value = true then
            { x with state := .seated, lamp := ⟨.amber, .steady⟩, power := false }
          else x
        (s.part.spinQueue = [] → ∀ i, p.slot i = seats (q.slot i) i) ∧
        (s.part.QueuesSound → (∀ i, (s.part.slot i).state = .empty) → ∀ i, p.slot i = seats (s.part.slot i) i))) ∧
  (∀ (q : Part) (r : List Byte), r.length < 2 → q.load r = ⟨.badRequest, false, q⟩) ∧
  (∀ (source : Mac) (tag : Byte) (body : List Byte) (rest : List Request) (s : State), 2 ≤ body.length →
    s.part.Head ⟨source, 255, tag, 0x02, body⟩ rest →
    let x := (s.part.taken ⟨source, 255, tag, 0x02, body⟩ rest).load body
    exec .loadEntry s = .next (s.put (x.part.respond ⟨255, tag, x.status, x.clamped, []⟩)))

/-- An image written as chapter 12 lays it out passes (R197), and its records and header fields are those written. -/
def Obligations.ImageRoundTrip : Prop :=
  ∀ (station : Mac) (trunkType : BitVec 16) (records : List (List Byte)),
    (∀ r ∈ records, r.length < 65536) → (imageOf station trunkType records).length ≤ 16384 →
    judgeImage (imageOf station trunkType records) = .applied ∧
    imageRecords (imageOf station trunkType records) (field (imageOf station trunkType records) 2 2) = some records ∧
    field (imageOf station trunkType records) 6 6 = station.toNat ∧
    field (imageOf station trunkType records) 12 2 = trunkType.toNat

/-! ### Frames and requests from the trunk -/

/-- TRUNK_FRAME_RECEIVED (R1, R3, R4), but for a command to a slot: a bad frame check is counted whatever the frame; a good frame for another address or type changes nothing; an accepted frame whose message is inconsistent is counted; a MGMT_REQUEST in an accepted frame joins the tail of the request queue, or is dropped and counted when the queue holds 8. -/
def Obligations.ReceivedFramesAreJudged : Prop :=
  (∀ (dest source : Mac) (ty : BitVec 16) (data : List Byte) (s : State),
    exec (.trunkFrameReceived false dest source ty data) s =
      .next (s.put { s.part with trunk := { s.part.trunk with
        badFrames := min 4294967295 (s.part.trunk.badFrames + 1) } })) ∧
  (∀ (dest source : Mac) (ty : BitVec 16) (data : List Byte) (s : State),
    (dest ≠ s.part.trunk.station ∧ dest ≠ 0xFFFFFFFFFFFF) ∨ ty ≠ s.part.tables.rack.trunkType →
    exec (.trunkFrameReceived true dest source ty data) s = .next s) ∧
  (∀ (dest source : Mac) (data : List Byte) (s : State),
    dest = s.part.trunk.station ∨ dest = 0xFFFFFFFFFFFF →
    (data.length < 6 ∨ 1024 < field data 4 2 ∨ data.length - 6 < field data 4 2 ∨
      (field data 0 1 ≠ 1 ∧ field data 0 1 ≠ 3) ∨ (field data 0 1 = 1 ∧ 23 < field data 1 1)) →
    exec (.trunkFrameReceived true dest source s.part.tables.rack.trunkType data) s =
      .next (s.put { s.part with trunk := { s.part.trunk with
        badMessages := min 4294967295 (s.part.trunk.badMessages + 1) } })) ∧
  (∀ (source : Mac) (slot tag code : Byte) (body pad : List Byte) (s : State), body.length ≤ 1024 →
     exec (frameOf s.part source (messageBytes 3 slot tag code body) pad) s =
       .next (s.put { s.part with trunk :=
         if s.part.trunk.requests.length < 8 then
           { s.part.trunk with requests := s.part.trunk.requests ++ [⟨source, slot, tag, code, body⟩] }
         else { s.part.trunk with requestsDropped := min 4294967295 (s.part.trunk.requestsDropped + 1) } }))

/-- A message laid out as section 1.2 and R201 say, with any bytes after it, is read back as it was (R3): no bit of it is dropped. -/
def Obligations.MessageRoundTrip : Prop :=
  ∀ (tag code : Byte) (body pad : List Byte), body.length ≤ 1024 →
    (∀ i : SlotId, parseMessage (messageBytes 1 (byte i.val) tag code body ++ pad) = .command i tag code body) ∧
    (∀ slot : Byte, parseMessage (messageBytes 3 slot tag code body ++ pad) = .request slot tag code body)

/-- The admission checks (R70) in their order, with the class looked up by R69. -/
def Obligations.AdmissionChecks : Prop :=
  (∀ (p : Part) (k : Fin 64), (∀ j : Fin 64, p.tables.filters[j].valid = true →
      p.tables.filters[j].code = p.tables.filters[k].code → j = k) → p.tables.filters[k].valid = true →
    p.classOf p.tables.filters[k].code = p.tables.filters[k].cls) ∧
  (∀ (p : Part) (code : Byte), (∀ j : Fin 64, p.tables.filters[j].valid = true → p.tables.filters[j].code ≠ code) →
    p.classOf code = 7) ∧
  (∀ (p : Part) (i : SlotId) (tag code : Byte) (body : List Byte), p.admission i tag code body =
    if tag = 255 then some .refusedTag
    else if (p.slot i).state ≠ .running ∧ (p.slot i).state ≠ .condemned then some .refusedState
    else if (p.slot i).lane = .recovering then some .refusedRecovering
    else if (p.zone (zoneOf i)).state = .alarm then some .refusedZone
    else if (match p.currentStep i with
      | none => false
      | some st => st.mask[p.classOf code]) = false then some .refusedClass
    else if ∃ e ∈ (p.slot i).outstanding, e.tag = tag then some .refusedTag
    else if 8 ≤ (p.slot i).outstanding.length then some .refusedFull
    else if 64 < body.length then some .refusedSize
    else none)

/-- A refused SLOT_COMMAND (R71, R13, R90): a refusal completion joins the upstream queue below 64 completions and is dropped and counted otherwise; the refused counter and REFUSED_SEEN follow in both cases; nothing else changes. -/
def Obligations.CommandRefused : Prop :=
  ∀ (i : SlotId) (source : Mac) (tag code : Byte) (body pad : List Byte) (st : Status) (s : State),
    body.length ≤ 1024 → s.part.admission i tag code body = some st →
    exec (frameOf s.part source (messageBytes 1 (byte i.val) tag code body) pad) s =
      .next (s.put (({ s.part with trunk :=
        if s.part.trunk.completions.length < 64 then
          { s.part.trunk with completions := s.part.trunk.completions ++
              [{ slot := i, tag := tag, status := st, delta := 0, coverage := 0, identity := none, latency := 0,
                 step := 255, cls := s.part.classOf code, forEntry := false }] }
        else { s.part.trunk with refusalsUnsent := min 4294967295 (s.part.trunk.refusalsUnsent + 1) } } : Part).modSlot i
          fun q => { q with
            counters := { q.counters with refused := min 65535 (q.counters.refused + 1) }
            sticky := { q.sticky with refusedSeen := true } }))

/-- An admitted SLOT_COMMAND (R72, R74, R161): the entry at the tail with the class values it copies, the accepted counter, the watchdog serviced where the step has one, with the lamp of a slot at silence stage 0, and an idle lane takes up the oldest QUEUED entry; nothing else of the slot and nothing outside it changes. -/
def Obligations.CommandAdmitted : Prop :=
  ∀ (i : SlotId) (source : Mac) (tag code : Byte) (body pad : List Byte) (s : State),
    body.length ≤ 1024 → s.part.admission i tag code body = none →
    let q := s.part.slot i
    let cls := s.part.tables.classes[s.part.classOf code]
    let q' : Slot := { q with
      outstanding := q.outstanding ++
        [{ tag := tag, code := code, body := body, cls := s.part.classOf code, timeout := cls.timeout, slow := cls.slow,
           coverage := cls.coverage, scored := cls.scored, step := q.stepIndex, state := .queued }]
      counters := { q.counters with accepted := min 65535 (q.counters.accepted + 1) }
      stage1 := if s.part.interval i = 0 then q.stage1 else false
      silenceTimer := if s.part.interval i = 0 then q.silenceTimer else some ⟨s.part.interval i, 0⟩
      lamp := if s.part.interval i = 0 then q.lamp else if q.state = .running then ⟨.green, .steady⟩ else ⟨.amber, .hz2⟩
      power := if s.part.interval i = 0 then q.power else true }
    exec (frameOf s.part source (messageBytes 1 (byte i.val) tag code body) pad) s =
      .next (s.put (s.part.modSlot i fun _ => { q' with laneTx := q'.takesUp }))

/-! ### Management requests -/

/-- The general checks (R6) in their order, over the codes, slot ranges and body lengths of Tables 1-2 and 12-1. A request that fails one is answered with its status and changes nothing else; a request of no known code is answered BAD_REQUEST. A request is taken only from the head, into an empty place (R5), and by its own row, whose code it bears, or by UNKNOWN_REQUEST_CODE where it bears none of Table 1-2; with another request at the head the row has no effect (log entry 1: DESIGN CHOICE). -/
def Obligations.GeneralChecksInOrder : Prop :=
  (∀ (phase : Phase) (r : Request), generalCheck phase r =
    if r.code.toNat ∉ [0x01, 0x02, 0x03, 0x10, 0x11, 0x12, 0x20, 0x21, 0x22, 0x23, 0x30, 0x31, 0x40, 0x41] then
      some .badRequest
    else if phase = .loading ∧ r.code ≠ 0x01 then some .notReady
    else if r.code.toNat ∈ [0x10, 0x20, 0x21, 0x22] ∧ 24 ≤ r.slot.toNat then some .badIndex
    else if r.code.toNat ∉ [0x10, 0x20, 0x21, 0x22] ∧ r.slot ≠ 255 then some .badIndex
    else if (r.code = 0x02 ∧ r.body.length < 2) ∨ (r.code = 0x03 ∧ r.body.length ≠ 5) ∨
        (r.code = 0x23 ∧ r.body.length ≠ 3) ∨
        (r.code.toNat ∈ [0x11, 0x12, 0x20, 0x21, 0x22, 0x30, 0x31] ∧ r.body.length ≠ 1) ∨
        (r.code.toNat ∈ [0x01, 0x10, 0x40, 0x41] ∧ r.body.length ≠ 0) then some .badRequest
    else none) ∧
  (∀ (c : Instr) (r : Request) (rest : List Request) (st : RespStatus) (s : State),
    s.part.trunk.response = none → s.part.trunk.requests = r :: rest → takes c r = true →
    generalCheck s.part.loader.phase r = some st →
    exec c s = .next (s.put ((s.part.taken r rest).respond (noTo r st)))) ∧
  (∀ (r : Request) (rest : List Request) (s : State),
    s.part.trunk.response = none → s.part.trunk.requests = r :: rest → reqOf r.code = none →
    exec .unknownRequestCode s = .next (s.put ((s.part.taken r rest).respond (noTo r .badRequest)))) ∧
  (∀ (c : Instr) (r : Request) (s : State), takes c r = true →
    s.part.trunk.response ≠ none ∨ s.part.trunk.requests = [] → exec c s = .next s) ∧
  (∀ (c : Instr) (r r' : Request) (rest : List Request) (s : State), takes c r' = true →
    s.part.trunk.requests = r :: rest → takes c r = false → exec c s = .next s) ∧
  (let rows : List (Instr × Byte) := [(.readPartId, 0x01), (.loadEntry, 0x02), (.readEntry, 0x03), (.readSlot, 0x10),
     (.readZone, 0x11), (.readCounters, 0x12), (.startSlot, 0x20), (.stepDone, 0x21), (.abortSlot, 0x22),
     (.service, 0x23), (.toteSwap, 0x30), (.toteWithdraw, 0x31), (.resetTraffic, 0x40), (.resetRack, 0x41)]
   (∀ x ∈ rows, ∀ r : Request, takes x.1 r = true ↔ r.code = x.2) ∧
   (∀ r : Request, takes .unknownRequestCode r = true ↔ ∀ x ∈ rows, r.code ≠ x.2))

/-- A request that is taken is answered (R5, R6, R7): the response copies its slot field and tag, and one answered with a status other than OK changes nothing but the server address, the queue and the place. -/
def Obligations.RefusedRequestChangesNothing : Prop :=
  ∀ (c : Instr) (r : Request) (rest : List Request) (s : State),
    s.part.trunk.response = none → s.part.trunk.requests = r :: rest → takes c r = true →
    ∃ (p : Part) (resp : Response), exec c s = .next (s.put (p.respond resp)) ∧ resp.slot = r.slot ∧ resp.tag = r.tag ∧
      p.serving = some r ∧ p.trunk.server = r.source ∧ p.trunk.requests = rest ∧
      (resp.status ≠ .ok → resp.clamped = false ∧ resp.content = [] ∧ p = s.part.taken r rest)

/-- READ_PART_ID (R10), in either part phase. -/
def Obligations.ReadPartIdAnswers : Prop :=
  ∀ (source : Mac) (tag : Byte) (rest : List Request) (s : State),
    s.part.trunk.response = none → s.part.trunk.requests = ⟨source, 255, tag, 0x01, []⟩ :: rest →
    exec .readPartId s = .next (s.put ((s.part.taken ⟨source, 255, tag, 0x01, []⟩ rest).respond
      ⟨255, tag, .ok, false,
        [0x46, 0x4B, 0x32, 0x34, 0x36, 0x30, 1, (match s.part.loader.phase with | .loading => 0 | .ready => 1),
         s.part.loader.strap.setWidth 8] ++
        beBytes 6 s.part.trunk.station.toNat ++ beBytes 2 s.part.tables.rack.trunkType.toNat ++
        [(match s.part.loader.outcome with
          | none => 0
          | some .applied => 1
          | some .checkFailed => 2
          | some .absent => 3 : Byte)] ++
        beBytes 2 s.part.loader.applied ++ beBytes 2 s.part.loader.skipped⟩))

/-- LOAD_ENTRY's refusals in the order of R8: table number, manifest, length, index, in-use of a recipe, a step, a limit set (R54) and of a cleared enable flag (R22), value (R50, R51, R67, R68, R108, R174, R175, R200), duplicate code (R68). -/
def Obligations.LoadEntryRefusals : Prop :=
  ∀ (source : Mac) (tag n k : Byte) (c : List Byte) (rest : List Request) (s : State),
    s.part.Head ⟨source, 255, tag, 0x02, n :: k :: c⟩ rest →
    let inUse (used : RecipeEntry → Prop) : Prop :=
      ∃ i r, (s.part.slot i).references = true ∧ s.part.recipeOf i = some r ∧ used r
    let recipeUsed := ∃ i r, (s.part.slot i).references = true ∧ (s.part.slot i).recipe = some r ∧ r.val = k.toNat
    let stepUsed := inUse fun r => r.first ≤ k.toNat ∧ k.toNat < r.first + r.count
    let limitUsed := inUse fun r => r.limit.val = k.toNat
    let enableUsed := ∃ i : SlotId, s.part.tables.rack.enables[i] = true ∧ (slotSetAt c 2)[i] = false ∧
      (s.part.slot i).state ≠ .empty ∧ (s.part.slot i).state ≠ .seated
    ∀ st : RespStatus,
    ((9 < n.toNat ∧ st = .badIndex) ∨
     (n = 9 ∧ st = .badRequest) ∨
     (n.toNat < 9 ∧ c.length ≠ [6, 3, 3, 14, 26, 5, 1, 1, 24].getD n.toNat 0 ∧ st = .badRequest) ∨
     (n.toNat < 9 ∧ c.length = [6, 3, 3, 14, 26, 5, 1, 1, 24].getD n.toNat 0 ∧
       [8, 64, 16, 128, 8, 9, 8, 18, 1].getD n.toNat 0 ≤ k.toNat ∧ st = .badIndex) ∨
     (n = 2 ∧ c.length = 3 ∧ k.toNat < 16 ∧ recipeUsed ∧ st = .inUse) ∨
     (n = 3 ∧ c.length = 14 ∧ k.toNat < 128 ∧ stepUsed ∧ st = .inUse) ∨
     (n = 4 ∧ c.length = 26 ∧ k.toNat < 8 ∧ limitUsed ∧ st = .inUse) ∨
     (n = 8 ∧ c.length = 24 ∧ k = 0 ∧ enableUsed ∧ st = .inUse) ∨
     (n = 0 ∧ c.length = 6 ∧ k.toNat < 8 ∧ (1 < field c 4 1 ∨ 1 < field c 5 1) ∧ st = .badValue) ∨
     (n = 1 ∧ c.length = 3 ∧ k.toNat < 64 ∧ (1 < field c 0 1 ∨ 7 < field c 2 1) ∧ st = .badValue) ∨
     (n = 2 ∧ c.length = 3 ∧ k.toNat < 16 ∧ ¬ recipeUsed ∧
       (127 < field c 0 1 ∨ 16 < field c 1 1 ∨ 7 < field c 2 1 ∨ 128 < field c 0 1 + field c 1 1) ∧ st = .badValue) ∨
     (n = 3 ∧ c.length = 14 ∧ k.toNat < 128 ∧ ¬ stepUsed ∧
       (1 < field c 0 1 ∨ 2 < field c 8 1 ∨ 1 < field c 13 1) ∧ st = .badValue) ∨
     (n = 4 ∧ c.length = 26 ∧ k.toNat < 8 ∧ ¬ limitUsed ∧
       (field c 7 2 < field c 5 2 ∨ field c 9 2 < field c 7 2 ∨ field c 11 2 < field c 9 2 ∨
         field c 13 2 < field c 11 2 ∨ field c 15 2 < field c 13 2) ∧ st = .badValue) ∨
     (n = 5 ∧ c.length = 5 ∧ k.toNat < 9 ∧
       (7 < field c 0 1 ∨ 3 < field c 1 1 ∨ 3 < field c 2 1 ∨ 1 < field c 3 1 ∨ (field c 3 1 = 1 ∧ 15 < field c 4 1)) ∧
       st = .badValue) ∨
     (n = 6 ∧ c = [0] ∧ k.toNat < 8 ∧ st = .badValue) ∨
     (n = 8 ∧ c.length = 24 ∧ k = 0 ∧ ¬ enableUsed ∧ field c 0 2 < 0x0600 ∧ st = .badValue) ∨
     (n = 1 ∧ c.length = 3 ∧ k.toNat < 64 ∧ field c 0 1 = 1 ∧ field c 2 1 ≤ 7 ∧
       (∃ j : Fin 64, j.val ≠ k.toNat ∧ s.part.tables.filters[j].valid = true ∧
         s.part.tables.filters[j].code.toNat = field c 1 1) ∧ st = .duplicate)) →
    exec .loadEntry s = .next (s.put ((s.part.taken ⟨source, 255, tag, 0x02, n :: k :: c⟩ rest).respond
      ⟨255, tag, st, false, []⟩))

/-- LOAD_ENTRY stores an entry whole, clamped as its table says, and answers OK with CLAMPED exactly when a field was moved. A class (R67), a filter (R68), an unreferenced recipe (R50), step (R51) and limit set (R108), a bin (R174) and a notice level (R192): nothing else changes. A tote settings entry (R175, R176): the capacity is held between the fill and 60; an OPEN tote whose fill it equals becomes FULL with TOTE_FULL; a FULL tote below it becomes OPEN and its wait queue is served (R182); an ABSENT tote and a FULL tote at it stay as they are. The rack settings (Table 8-4, Table 11-2): each SEATED slot whose enable flag became clear is EMPTY and each EMPTY slot with its drive present whose flag became set is SEATED (R22), and a raised budget makes grants (R132); an equal entry makes no occasion. That a loaded hard limit is an unsigned field, so that 32,768 and above is stored as 200, is the model's choice (log entry 34: DESIGN CHOICE). -/
def Obligations.LoadEntryStores : Prop :=
  (∀ (source : Mac) (tag : Byte) (k : Fin 8) (e : ClassEntry) (rest : List Request) (s : State),
    e.timeout < 65536 → e.slow < 65536 →
    s.part.Head ⟨source, 255, tag, 0x02, 0 :: byte k.val :: e.bytes⟩ rest →
    let e' : ClassEntry := { e with timeout := max 1 (min 6000 e.timeout), slow := max 1 e.slow }
    exec .loadEntry s = .next (s.put (((s.part.taken ⟨source, 255, tag, 0x02, 0 :: byte k.val :: e.bytes⟩ rest).modTables
      fun t => { t with classes := t.classes.set k e' }).respond ⟨255, tag, .ok, decide (e' ≠ e), []⟩))) ∧
  (∀ (source : Mac) (tag : Byte) (k : Fin 64) (e : FilterEntry) (rest : List Request) (s : State),
    (e.valid = true → ∀ j : Fin 64, s.part.tables.filters[j].valid = true → s.part.tables.filters[j].code = e.code → j = k) →
    s.part.Head ⟨source, 255, tag, 0x02, 1 :: byte k.val :: e.bytes⟩ rest →
    exec .loadEntry s = .next (s.put (((s.part.taken ⟨source, 255, tag, 0x02, 1 :: byte k.val :: e.bytes⟩ rest).modTables
      fun t => { t with filters := t.filters.set k e }).respond ⟨255, tag, .ok, false, []⟩))) ∧
  (∀ (source : Mac) (tag : Byte) (k : Fin 16) (e : RecipeEntry) (rest : List Request) (s : State),
    e.InRange → (∀ i, (s.part.slot i).references = true → (s.part.slot i).recipe ≠ some k) →
    s.part.Head ⟨source, 255, tag, 0x02, 2 :: byte k.val :: e.bytes⟩ rest →
    exec .loadEntry s = .next (s.put (((s.part.taken ⟨source, 255, tag, 0x02, 2 :: byte k.val :: e.bytes⟩ rest).modTables
      fun t => { t with recipes := t.recipes.set k e }).respond ⟨255, tag, .ok, false, []⟩))) ∧
  (∀ (source : Mac) (tag : Byte) (k : Fin 128) (e : StepEntry) (rest : List Request) (s : State),
    -32768 ≤ e.setPoint → e.setPoint ≤ 32767 → e.tolerance < 256 → e.ramp < 256 → e.dwell < 65536 → e.limit < 65536 →
    e.silence < 65536 →
    (∀ i r, (s.part.slot i).references = true → s.part.recipeOf i = some r →
      k.val < r.first ∨ r.first + r.count ≤ k.val) →
    s.part.Head ⟨source, 255, tag, 0x02, 3 :: byte k.val :: e.bytes⟩ rest →
    let e' : StepEntry := { e with
      setPoint := if e.setPoint = 0 then 0 else max 40 (min 170 e.setPoint)
      tolerance := min 40 e.tolerance
      ramp := max 1 (min 40 e.ramp)
      limit := if e.limit = 0 then 0 else max e.dwell e.limit
      silence := min 3600 e.silence }
    exec .loadEntry s = .next (s.put (((s.part.taken ⟨source, 255, tag, 0x02, 3 :: byte k.val :: e.bytes⟩ rest).modTables
      fun t => { t with steps := t.steps.set k e' }).respond ⟨255, tag, .ok, decide (e' ≠ e), []⟩))) ∧
  (∀ (source : Mac) (tag : Byte) (k : Fin 8) (e : LimitSet) (rest : List Request) (s : State),
    e.Fits → e.t1 ≤ e.t2 → e.t2 ≤ e.t3 → e.t3 ≤ e.t4 → e.t4 ≤ e.t5 → e.t5 ≤ e.t6 →
    (∀ i r, (s.part.slot i).references = true → s.part.recipeOf i = some r → r.limit ≠ k) →
    s.part.Head ⟨source, 255, tag, 0x02, 4 :: byte k.val :: e.bytes⟩ rest →
    let e' : LimitSet := { e with bt := min 7 e.bt, p := min 1000 e.p }
    exec .loadEntry s = .next (s.put (((s.part.taken ⟨source, 255, tag, 0x02, 4 :: byte k.val :: e.bytes⟩ rest).modTables
      fun t => { t with limits := t.limits.set k e' }).respond ⟨255, tag, .ok, decide (e' ≠ e), []⟩))) ∧
  (∀ (source : Mac) (tag : Byte) (k : Fin 9) (e : BinEntry) (rest : List Request) (s : State),
    s.part.Head ⟨source, 255, tag, 0x02, 5 :: byte k.val :: e.bytes⟩ rest →
    exec .loadEntry s = .next (s.put (((s.part.taken ⟨source, 255, tag, 0x02, 5 :: byte k.val :: e.bytes⟩ rest).modTables
      fun t => { t with bins := t.bins.set k e }).respond ⟨255, tag, .ok, false, []⟩))) ∧
  (∀ (source : Mac) (tag : Byte) (k : Fin 18) (level : Fin 256) (rest : List Request) (s : State),
    s.part.Head ⟨source, 255, tag, 0x02, [7, byte k.val, byte level.val]⟩ rest →
    exec .loadEntry s = .next (s.put (((s.part.taken ⟨source, 255, tag, 0x02, [7, byte k.val, byte level.val]⟩ rest).modTables
      fun t => { t with levels := t.levels.set k (min 7 level.val) }).respond ⟨255, tag, .ok, decide (7 < level.val), []⟩))) ∧
  (∀ (source : Mac) (tag : Byte) (k : ToteId) (cap : Fin 256) (rest : List Request) (s : State),
    cap ≠ 0 → (s.part.tote k).state = .full → s.part.QueuesSound →
    s.part.Head ⟨source, 255, tag, 0x02, [6, byte k.val, byte cap.val]⟩ rest →
    let old := s.part.tote k
    let fill := old.manifest.length
    let cap' := max fill (min 60 cap.val)
    let room := cap' - fill
    ∃ p : Part, exec .loadEntry s = .next (s.put (p.respond ⟨255, tag, .ok, decide (cap' ≠ cap.val), []⟩)) ∧
      p.tables = { s.part.tables with capacities := s.part.tables.capacities.set k cap' } ∧
      (p.tote k).state = (if room ≤ old.wait.length then .full else .opened) ∧
      (p.tote k).wait = old.wait.drop room ∧ (p.tote k).manifest.take fill = old.manifest ∧
      (p.tote k).manifest.length = fill + min room old.wait.length ∧
      (∀ (j : Nat) (i : SlotId), j < room → old.wait[j]? = some i → p.slot i = { s.part.slot i with
        state := .unloadReady
        position := some (fill + j + 1)
        lamp := (s.part.slot i).binLamp.getD ⟨.off, .steady⟩
        power := false }) ∧
      (∀ i : SlotId, i ∉ old.wait.take room → p.slot i = s.part.slot i) ∧ (∀ u, u ≠ k → p.tote u = s.part.tote u) ∧
      (room = 0 → p = { s.part.taken ⟨source, 255, tag, 0x02, [6, byte k.val, byte cap.val]⟩ rest with tables := p.tables })) ∧
  (∀ (source : Mac) (tag : Byte) (e : RackSettings) (rest : List Request) (s : State),
    let old := s.part.tables.rack
    let r : Request := ⟨source, 255, tag, 0x02, 8 :: 0 :: e.bytes⟩
    e.Fits → 0x0600 ≤ e.trunkType.toNat → s.part.QueuesSound → s.part.Head r rest →
    (∀ i : SlotId, old.enables[i] = true → e.enables[i] = false →
      (s.part.slot i).state = .empty ∨ (s.part.slot i).state = .seated) →
    let e' : RackSettings := { e with
      budget := max 1 (min 8 e.budget)
      spinupWindow := max 2 (min 60 e.spinupWindow)
      spindownWait := min 120 e.spindownWait
      recoveryMax := min 15 e.recoveryMax
      recoveryWindow := max 1 (min 120 e.recoveryWindow)
      retestMax := min 3 e.retestMax
      hardLimit := max 100 (min 200 e.hardLimit)
      tripTime := max 10 (min 600 e.tripTime)
      kp := min 63 e.kp
      ki := min 63 e.ki
      imax := min 4096 e.imax
      fanBase := min 100 e.fanBase
      fanBand := min 40 e.fanBand
      noShowWindow := max 5 (min 300 e.noShowWindow)
      ejectHold := max 1 (min 10 e.ejectHold) }
    let base (i : SlotId) : Slot :=
      let q := s.part.slot i
      if old.enables[i] = true ∧ e.enables[i] = false ∧ q.state = .seated then q.emptied
      else if old.enables[i] = false ∧ e.enables[i] = true ∧ q.state = .empty ∧ q.presence.value = true then
        { q with state := .seated, lamp := ⟨.amber, .steady⟩, power := false }
      else q
    ∃ p : Part, exec .loadEntry s = .next (s.put (p.respond ⟨255, tag, .ok, decide (e' ≠ e), []⟩)) ∧
      p.tables = { s.part.tables with rack := e' } ∧
      (e'.budget ≤ old.budget → p.spinQueue = s.part.spinQueue ∧ p.spinCount = s.part.spinCount ∧ ∀ i, p.slot i = base i) ∧
      (old.budget < e'.budget →
        Grants { s.part with tables := p.tables } s.part.spinQueue s.part.spinCount base p) ∧
      (s.part.taken r rest).trunk.SameButNotices p.trunk ∧ p.zones = s.part.zones ∧ p.totes = s.part.totes ∧
      p.seconds = s.part.seconds ∧ p.ms = s.part.ms ∧ p.door = s.part.door ∧ p.loader = s.part.loader ∧
      p.busRead = s.part.busRead) ∧
  (∀ (source : Mac) (tag : Byte) (k : ToteId) (cap : Fin 256) (rest : List Request) (s : State),
    cap ≠ 0 → (s.part.tote k).state ≠ .full →
    s.part.Head ⟨source, 255, tag, 0x02, [6, byte k.val, byte cap.val]⟩ rest →
    let fill := (s.part.tote k).manifest.length
    let cap' := max fill (min 60 cap.val)
    let q := (s.part.taken ⟨source, 255, tag, 0x02, [6, byte k.val, byte cap.val]⟩ rest).modTables
      fun t => { t with capacities := t.capacities.set k cap' }
    exec .loadEntry s = .next (s.put ((if (s.part.tote k).state = .opened ∧ cap' = fill then
        (q.modTote k fun x => { x with state := .full }).raise (.toteFull k fill (s.part.tote k).wait.length)
      else q).respond ⟨255, tag, .ok, decide (cap' ≠ cap.val), []⟩))) ∧
  (∀ (source : Mac) (tag : Byte) (rest : List Request) (s : State), s.part.tables.rack.InRange →
    s.part.Head ⟨source, 255, tag, 0x02, 8 :: 0 :: s.part.tables.rack.bytes⟩ rest →
    ∃ order : Nat, exec .loadEntry s = .next (s.put
      { (s.part.taken ⟨source, 255, tag, 0x02, 8 :: 0 :: s.part.tables.rack.bytes⟩ rest).respond
          ⟨255, tag, .ok, false, []⟩ with order := order }))

/-- The bytes that READ_ENTRY returns of an entry, loaded again, are that entry (Table 12-4): no bit of a table's layout is dropped. -/
def Obligations.TableEntryRoundTrip : Prop :=
  (∀ e : ClassEntry, e.timeout < 65536 → e.slow < 65536 → e.bytes.length = 6 ∧ rawClass e.bytes = e) ∧
  (∀ e : FilterEntry, e.bytes.length = 3 ∧ rawFilter e.bytes = e) ∧
  (∀ e : RecipeEntry, e.first < 256 → e.count < 256 → e.bytes.length = 3 ∧ rawRecipe e.bytes = e) ∧
  (∀ e : StepEntry, -32768 ≤ e.setPoint → e.setPoint ≤ 32767 → e.tolerance < 256 → e.ramp < 256 → e.dwell < 65536 →
    e.limit < 65536 → e.silence < 65536 → e.bytes.length = 14 ∧ rawStep e.bytes = e) ∧
  (∀ e : LimitSet, e.wu < 256 → e.wr < 256 → e.wc < 256 → e.wf < 256 → e.ws < 256 → e.t1 < 65536 → e.t2 < 65536 →
    e.t3 < 65536 → e.t4 < 65536 → e.t5 < 65536 → e.t6 < 65536 → e.vmin < 4294967296 → e.cap < 65536 → e.bt < 256 →
    e.p < 65536 → e.bytes.length = 26 ∧ rawLimit e.bytes = e) ∧
  (∀ e : BinEntry, e.bytes.length = 5 ∧ rawBin e.bytes = e) ∧
  (∀ e : RackSettings, e.InRange → e.bytes.length = 24 ∧ rawRack e.bytes = e)

/-- READ_ENTRY (R9, R188, Table 12-4): of an entry of each table, and of a manifest entry, the full length and the content cut to the maximum length; BAD_INDEX for a table number above 9, an index out of range, or a position that is 0 or above the fill; BAD_VALUE for a maximum length above 1024. Nothing but the server address, the queue and the place changes. READ_SLOT (R43, R42, Table 12-3), READ_ZONE (R157, section 12.3) and READ_COUNTERS (R196): the response carries the snapshot or the counters as they stand, in their layouts; READ_SLOT then clears the sticky conditions but for those whose cause remains, READ_ZONE changes nothing, and READ_COUNTERS with its clear flag zeroes every counter. Inside the snapshots, the seconds remaining of a timer that runs are its length less the ticks counted (log entry 13: DEDUCED), and a value that is absent is sent as 0 (log entry 18: DEDUCED). -/
def Obligations.ReadsAnswer : Prop :=
  let stateCode (st : SlotState) : Byte := byte ([SlotState.empty, .seated, .powerWait, .spinup, .ident, .running,
    .condemned, .draining, .spindown, .toteWait, .unloadReady].idxOf st)
  let reasonCode (r : Reason) : Byte := byte ([Reason.none, .condemnedUncorrectable, .coverage, .noShow, .powerFault,
    .overtemp, .unresponsive, .serverReject, .silent, .operator, .serverReturn].idxOf r)
  let colourCode (c : Colour) : Byte := byte ([Colour.off, .green, .amber, .both].idxOf c)
  let blinkCode (b : Blink) : Byte := byte ([Blink.steady, .hz1, .hz2, .hz8].idxOf b)
  let flag (b : Bool) : Byte := if b then 1 else 0
  let num (n : Option Nat) : Byte := byte (n.getD 0)
  let ident (o : Option Identity) : List Byte := match o with
    | none => List.replicate 32 0
    | some d => padTo 20 d.serial ++ padTo 8 d.firmware ++ beBytes 4 d.capacity
  (∀ (source : Mac) (tag n k pos m1 m0 : Byte) (rest : List Request) (s : State),
     let r : Request := ⟨source, 255, tag, 0x03, [n, k, pos, m1, m0]⟩
     let len := m1.toNat * 256 + m0.toNat
     let tab := s.part.tables
     let whole (full : List Byte) : Response := if 1024 < len then ⟨255, tag, .badValue, false, []⟩
       else ⟨255, tag, .ok, false, beBytes 2 full.length ++ full.take len⟩
     s.part.Head r rest → ∀ resp : Response,
     ((9 < n.toNat ∧ resp = ⟨255, tag, .badIndex, false, []⟩) ∨
      (n.toNat < 9 ∧ [8, 64, 16, 128, 8, 9, 8, 18, 1].getD n.toNat 0 ≤ k.toNat ∧
        resp = ⟨255, tag, .badIndex, false, []⟩) ∨
      (n = 9 ∧ (7 < k.toNat ∨ pos = 0) ∧ resp = ⟨255, tag, .badIndex, false, []⟩) ∨
      (∃ t : ToteId, n = 9 ∧ k = byte t.val ∧ (s.part.tote t).manifest.length < pos.toNat ∧
        resp = ⟨255, tag, .badIndex, false, []⟩) ∨
      (∃ j : Fin 8, n = 0 ∧ k = byte j.val ∧
        let e := tab.classes[j]
        resp = whole (beBytes 2 e.timeout ++ beBytes 2 e.slow ++ [flag e.coverage, flag e.scored])) ∨
      (∃ j : Fin 64, n = 1 ∧ k = byte j.val ∧
        let e := tab.filters[j]
        resp = whole [flag e.valid, e.code, byte e.cls.val]) ∨
      (∃ j : Fin 16, n = 2 ∧ k = byte j.val ∧
        let e := tab.recipes[j]
        resp = whole [byte e.first, byte e.count, byte e.limit.val]) ∨
      (∃ j : Fin 128, n = 3 ∧ k = byte j.val ∧
        let e := tab.steps[j]
        resp = whole ([flag e.cooldown, e.mask] ++ beBytes 2 (BitVec.ofInt 16 e.setPoint).toNat ++
          [byte e.tolerance, byte e.ramp] ++ beBytes 2 e.dwell ++
          [byte ([Advance.dwell, .server, .both].idxOf e.advance)] ++ beBytes 2 e.limit ++ beBytes 2 e.silence ++
          [flag e.scoring])) ∨
      (∃ j : Fin 8, n = 4 ∧ k = byte j.val ∧
        let e := tab.limits[j]
        resp = whole ([byte e.wu, byte e.wr, byte e.wc, byte e.wf, byte e.ws] ++ beBytes 2 e.t1 ++ beBytes 2 e.t2 ++
          beBytes 2 e.t3 ++ beBytes 2 e.t4 ++ beBytes 2 e.t5 ++ beBytes 2 e.t6 ++ beBytes 4 e.vmin ++ beBytes 2 e.cap ++
          [byte e.bt] ++ beBytes 2 e.p)) ∨
      (∃ j : Fin 9, n = 5 ∧ k = byte j.val ∧
        let e := tab.bins[j]
        resp = whole [byte e.tote.val, colourCode e.colour, blinkCode e.blink, flag e.retest.isSome,
          num (e.retest.map (·.val))]) ∨
      (∃ t : ToteId, n = 6 ∧ k = byte t.val ∧
        let x := s.part.tote t
        resp = whole (byte tab.capacities[t] :: byte ([ToteState.absent, .opened, .full].idxOf x.state) ::
          byte x.manifest.length :: byte (x.manifest.filter fun e => !e.placed).length :: byte x.wait.length ::
          x.wait.map fun i => byte i.val)) ∨
      (∃ j : Fin 18, n = 7 ∧ k = byte j.val ∧ resp = whole [byte tab.levels[j]]) ∨
      (n = 8 ∧ k = 0 ∧
        let e := tab.rack
        resp = whole (beBytes 2 e.trunkType.toNat ++
          [e.enables.extractLsb' 0 8, e.enables.extractLsb' 8 8, e.enables.extractLsb' 16 8] ++
          [byte e.budget, byte e.spinupWindow, byte e.spindownWait, byte e.recoveryMax, byte e.recoveryWindow,
           byte e.retestMax] ++ beBytes 2 e.hardLimit ++ beBytes 2 e.tripTime ++ [byte e.kp, byte e.ki] ++
          beBytes 2 e.imax ++ [byte e.fanBase, byte e.fanBand] ++ beBytes 2 e.noShowWindow ++ [byte e.ejectHold])) ∨
      (∃ (t : ToteId) (e : ManifestEntry), n = 9 ∧ k = byte t.val ∧ pos ≠ 0 ∧
        (s.part.tote t).manifest[pos.toNat - 1]? = some e ∧
        resp = whole ([byte e.position, byte e.slot.val, flag e.identity.isSome] ++ ident e.identity ++
          [num (e.disposition.map (·.val)), reasonCode e.reason, flag e.density.isSome] ++ beBytes 2 (e.density.getD 0) ++
          [byte e.retests, num (e.recipe.map (·.val))] ++ beBytes 4 e.testSeconds ++ [flag e.placed]))) →
     exec .readEntry s = .next (s.put ((s.part.taken r rest).respond resp))) ∧
  (∀ (source : Mac) (tag : Byte) (i : SlotId) (rest : List Request) (s : State),
    let r : Request := ⟨source, byte i.val, tag, 0x10, []⟩
    let q := s.part.slot i
    let g : Option Graded := if q.state ∈ [.running, .condemned, .draining] then some (s.part.graded i) else none
    let bit (k : Nat) (b : Bool) : Nat := if b then 2 ^ k else 0
    let left (o : Option Timer) : Nat := match o with
      | none => 0
      | some t => t.length - t.counted
    let content : List Byte :=
      [stateCode q.state, byte (i.val / 4),
       byte (bit 0 q.presence.value + bit 1 s.part.tables.rack.enables[i] + bit 2 q.stepDone + bit 3 q.retry +
         bit 4 (q.lane = .recovering) + bit 5 q.stage1),
       byte (bit 0 q.sticky.silenceWarned + bit 1 q.sticky.shortfall + bit 2 q.sticky.laneRecovered +
         bit 3 q.sticky.orphanSeen + bit 4 q.sticky.refusedSeen + bit 5 q.sticky.zoneAlarmSeen),
       byte (bit 0 q.recipe.isSome + bit 1 q.disposition.isSome + bit 2 q.density.isSome + bit 3 q.identity.isSome +
         bit 4 q.tote.isSome + bit 5 q.position.isSome + bit 6 g.isSome + bit 7 (g.bind (·.density)).isSome),
       num (q.recipe.map (·.val)), byte q.stepIndex] ++
      beBytes 2 q.elapsed ++ beBytes 2 q.dwell ++
      [byte q.shortfall, byte q.retests, num (q.disposition.map (·.val)), reasonCode q.reason] ++
      beBytes 2 (q.density.getD 0) ++ ident q.identity ++ beBytes 2 (left q.silenceTimer) ++
      [num (q.tote.map (·.val)), num q.position, byte q.recoveries, colourCode q.lamp.colour, blinkCode q.lamp.blink] ++
      (match q.binLamp with
        | none => [0, 0]
        | some l => [colourCode l.colour, blinkCode l.blink]) ++
      beBytes 2 q.counters.accepted ++ beBytes 2 q.counters.refused ++ beBytes 2 q.counters.orphans ++
      beBytes 2 q.counters.laneErrors ++ beBytes 4 q.testSeconds ++
      (match g with
        | none => [0, 0, 0, 0]
        | some x => [byte x.disposition.val, reasonCode x.reason] ++ beBytes 2 (x.density.getD 0)) ++
      beBytes 4 q.acc.v ++ beBytes 2 q.acc.u ++ beBytes 2 q.acc.r ++ beBytes 2 q.acc.c ++ beBytes 2 q.acc.f ++
      beBytes 2 q.acc.s ++ (List.finRange 8).flatMap (fun k => beBytes 2 q.acc.hist[k]) ++ [flag q.acc.frozen] ++
      [byte q.outstanding.length] ++ q.outstanding.flatMap fun e =>
        [e.tag, e.code, byte e.cls.val, (match e.state with | .queued => 0 | .issued _ _ => 1 | .done => 2 : Byte),
         byte e.step]
    s.part.Head r rest →
    exec .readSlot s = .next (s.put (((s.part.taken r rest).modSlot i fun q => { q with
      sticky := { silenceWarned := q.stage1, shortfall := false, laneRecovered := decide (q.lane = .recovering),
                  orphanSeen := false, refusedSeen := false,
                  zoneAlarmSeen := decide ((s.part.zone (zoneOf i)).state = .alarm) } }).respond
        ⟨byte i.val, tag, .ok, false, content⟩))) ∧
  (∀ (source : Mac) (tag : Byte) (z : Byte) (rest : List Request) (s : State),
    let r : Request := ⟨source, 255, tag, 0x11, [z]⟩
    let signed (o : Option Int) : List Byte := beBytes 2 (BitVec.ofInt 16 (o.getD 0)).toNat
    let offer (i : SlotId) : Int := match s.part.currentStep i with
      | none => 0
      | some e => if (s.part.slot i).state ∈ [.running, .condemned, .draining] then e.setPoint else 0
    s.part.Head r rest →
    (5 < z.toNat → exec .readZone s = .next (s.put ((s.part.taken r rest).respond ⟨255, tag, .badIndex, false, []⟩))) ∧
    (∀ h : z.toNat < 6,
      let q := s.part.zone ⟨z.toNat, h⟩
      let bit (k : Nat) (b : Bool) : Nat := if b then 2 ^ k else 0
      let content : List Byte :=
        [z, byte ([ZoneState.idle, .regulating, .held, .alarm, .sensorFault].idxOf q.state),
         byte (bit 0 q.temperature.isSome + bit 1 q.request.isSome + bit 2 q.target.isSome + bit 3 q.sensorFault +
           bit 4 s.part.door.value),
         byte ([none, some LastSample.valid, some .outOfRange, some .noAnswer].idxOf q.lastSample)] ++
        signed q.temperature ++ [byte q.invalidRun, byte q.validRun] ++ signed (q.request.map (·.setPoint)) ++
        [num (q.request.map (·.slot.val)), num (q.request.map (·.ramp))] ++ signed q.target ++ [byte q.rampAcc] ++
        signed (some q.integral) ++ [byte q.duty, byte q.fan] ++
        (match q.alarm with
          | .stopped => [0, 0, 0]
          | .running t => 1 :: beBytes 2 (t.length - t.counted)
          | .expired => [2, 0, 0]) ++
        ((List.finRange 24).filter fun i => i.val / 4 = z.toNat).flatMap fun i =>
          [byte i.val, stateCode (s.part.slot i).state] ++ signed (some (offer i))
      exec .readZone s = .next (s.put ((s.part.taken r rest).respond ⟨255, tag, .ok, false, content⟩)))) ∧
  (∀ (source : Mac) (tag : Byte) (clear : Byte) (rest : List Request) (s : State),
    let r : Request := ⟨source, 255, tag, 0x12, [clear]⟩
    let t := s.part.trunk
    let content := beBytes 4 t.badFrames ++ beBytes 4 t.badMessages ++ beBytes 4 t.requestsDropped ++
      beBytes 4 t.refusalsUnsent ++ beBytes 4 t.noticesLostTotal ++ beBytes 4 t.entriesSkipped ++
      (List.finRange 24).flatMap fun i => beBytes 2 (s.part.slot i).counters.accepted ++
        beBytes 2 (s.part.slot i).counters.refused ++ beBytes 2 (s.part.slot i).counters.orphans ++
        beBytes 2 (s.part.slot i).counters.laneErrors
    s.part.Head r rest →
    (1 < clear.toNat →
      exec .readCounters s = .next (s.put ((s.part.taken r rest).respond ⟨255, tag, .badValue, false, []⟩))) ∧
    (clear = 0 →
      exec .readCounters s = .next (s.put ((s.part.taken r rest).respond ⟨255, tag, .ok, false, content⟩))) ∧
    (clear = 1 → ∃ p : Part,
      exec .readCounters s = .next (s.put (p.respond ⟨255, tag, .ok, false, content⟩)) ∧
      p.trunk = { (s.part.taken r rest).trunk with
        badFrames := 0, badMessages := 0, requestsDropped := 0, refusalsUnsent := 0, noticesLostTotal := 0,
        entriesSkipped := 0 } ∧
      (∀ i, p.slot i = { s.part.slot i with counters := ⟨0, 0, 0, 0⟩ }) ∧
      p = { s.part.taken r rest with trunk := p.trunk, slots := p.slots }))

/-- START_SLOT (R23): the refusals in their order, each changing nothing else; and the start: the record at its "At START" values (R17), the accumulators cleared, POWER_WAIT at the tail of the spin-up queue (R128), or SPINUP at once where the grant can be made (R129, R24, R133). No grant waits beforehand (an invariant). -/
def Obligations.StartSlotAnswers : Prop :=
  ∀ (source : Mac) (tag : Byte) (i : SlotId) (k : Byte) (rest : List Request) (s : State),
    let r : Request := ⟨source, byte i.val, tag, 0x20, [k]⟩
    s.part.Head r rest →
    (∀ st : RespStatus,
      ((16 ≤ k.toNat ∧ st = .badIndex) ∨
       (k.toNat < 16 ∧ (s.part.slot i).state ≠ .seated ∧ st = .wrongState) ∨
       (k.toNat < 16 ∧ (s.part.slot i).state = .seated ∧
         (∃ c ∈ s.part.trunk.completions, c.forEntry = true ∧ c.slot = i) ∧ st = .wrongState) ∨
       (∃ h : k.toNat < 16, (s.part.slot i).state = .seated ∧
         (∀ c ∈ s.part.trunk.completions, c.forEntry = true → c.slot ≠ i) ∧
         ((∀ j : Fin 64, s.part.tables.filters[j].valid = true → s.part.tables.filters[j].cls ≠ 0) ∨
           s.part.tables.recipes[k.toNat].count = 0) ∧ st = .configMissing)) →
      exec .startSlot s = .next (s.put ((s.part.taken r rest).respond ⟨byte i.val, tag, st, false, []⟩))) ∧
    (∀ h : k.toNat < 16, (s.part.slot i).state = .seated →
      (∀ c ∈ s.part.trunk.completions, c.forEntry = true → c.slot ≠ i) →
      (∃ j : Fin 64, s.part.tables.filters[j].valid = true ∧ s.part.tables.filters[j].cls = 0) →
      s.part.tables.recipes[k.toNat].count ≠ 0 → s.part.NoGrantWaits →
      let granted := decide (s.part.spinQueue = [] ∧ s.part.spinCount < s.part.tables.rack.budget ∧
        s.part.door.value = false)
      ∃ p : Part, exec .startSlot s = .next (s.put (p.respond ⟨byte i.val, tag, .ok, false, []⟩)) ∧
        p.slot i = { s.part.slot i with
          state := if granted then .spinup else .powerWait
          recipe := some ⟨k.toNat, h⟩
          stepIndex := 0
          elapsed := 0
          dwell := 0
          stepDone := false
          shortfall := 0
          retests := 0
          disposition := none
          reason := .none
          density := none
          identity := none
          retry := false
          stage1 := false
          silenceTimer := none
          tote := none
          position := none
          recoveries := 0
          lamp := ⟨.green, if granted then .hz2 else .hz1⟩
          binLamp := none
          testSeconds := 0
          power := granted
          spinupTimer := if granted then some ⟨s.part.tables.rack.spinupWindow, 0⟩ else (s.part.slot i).spinupTimer
          acc := ⟨0, 0, 0, 0, 0, 0, Vector.replicate 8 0, false⟩ } ∧
        (∀ j, j ≠ i → p.slot j = s.part.slot j) ∧
        p.spinQueue = (if granted then [] else s.part.spinQueue ++ [i]) ∧
        p.spinCount = s.part.spinCount + (if granted then 1 else 0) ∧ p.zones = s.part.zones ∧ p.totes = s.part.totes ∧
        p.tables = s.part.tables ∧ (s.part.taken r rest).trunk.SameButNotices p.trunk)

/-- STEP_DONE (R61): the refusals in their order; a BOTH step whose dwell is not reached has its flag set, its watchdog serviced, and goes on; a SERVER step, and a BOTH step whose dwell is reached, end at once (R29, R55, R60): the next step, or DRAINING after the last one and in CONDEMNED. -/
def Obligations.StepDoneAnswers : Prop :=
  ∀ (source : Mac) (tag : Byte) (i : SlotId) (k : Byte) (rest : List Request) (s : State),
    let r : Request := ⟨source, byte i.val, tag, 0x21, [k]⟩
    let q := s.part.slot i
    s.part.Head r rest →
    (∀ st : RespStatus,
      ((16 ≤ k.toNat ∧ k.toNat ≤ 254 ∧ st = .badValue) ∨
       ((k.toNat < 16 ∨ k = 255) ∧ q.state ≠ .running ∧ q.state ≠ .condemned ∧ st = .wrongState) ∨
       (k.toNat < 16 ∧ (q.state = .running ∨ q.state = .condemned) ∧ k.toNat ≠ q.stepIndex ∧ st = .wrongState) ∨
       ((k = 255 ∨ (k.toNat < 16 ∧ k.toNat = q.stepIndex)) ∧ (q.state = .running ∨ q.state = .condemned) ∧
         (∃ e, s.part.currentStep i = some e ∧ (e.advance = .dwell ∨ (e.advance = .both ∧ q.stepDone = true))) ∧
         st = .wrongState)) →
      exec .stepDone s = .next (s.put ((s.part.taken r rest).respond ⟨byte i.val, tag, st, false, []⟩))) ∧
    (∀ e : StepEntry, (k = 255 ∨ (k.toNat < 16 ∧ k.toNat = q.stepIndex)) → (q.state = .running ∨ q.state = .condemned) →
      s.part.currentStep i = some e →
      (e.advance = .both → q.stepDone = false → q.dwell < e.dwell →
        exec .stepDone s = .next (s.put (((s.part.taken r rest).modSlot i fun _ => { q with
          stepDone := true
          stage1 := if e.silence = 0 then q.stage1 else false
          silenceTimer := if e.silence = 0 then q.silenceTimer else some ⟨e.silence, 0⟩
          lamp := if e.silence = 0 then q.lamp else if q.state = .running then ⟨.green, .steady⟩ else ⟨.amber, .hz2⟩
          power := if e.silence = 0 then q.power else true }).respond ⟨byte i.val, tag, .ok, false, []⟩))) ∧
      (e.advance = .both → q.stepDone = false → e.dwell ≤ q.dwell →
        ∃ p : Part, exec .stepDone s = .next (s.put (p.respond ⟨byte i.val, tag, .ok, false, []⟩)) ∧
          StepEnds i (s.part.modSlot i fun _ => { q with stepDone := true }) p) ∧
      (e.advance = .server →
        ∃ p : Part, exec .stepDone s = .next (s.put (p.respond ⟨byte i.val, tag, .ok, false, []⟩)) ∧
          StepEnds i s.part p))

/-- ABORT_SLOT (R34, R33): the refusals; in POWER_WAIT the slot leaves the spin-up queue for TOTE_WAIT or, with a place free, UNLOAD_READY; in a powered state the test ends early with ABORTED for its entries. A recorded pair stands (R35). -/
def Obligations.AbortSlotAnswers : Prop :=
  ∀ (source : Mac) (tag : Byte) (i : SlotId) (k : Byte) (rest : List Request) (s : State),
    let r : Request := ⟨source, byte i.val, tag, 0x22, [k]⟩
    let q := s.part.slot i
    let c : Cause := if k = 0 then ⟨.aborted, 8, .serverReturn⟩ else ⟨.aborted, 7, .serverReject⟩
    s.part.Head r rest →
    (1 < k.toNat →
      exec .abortSlot s = .next (s.put ((s.part.taken r rest).respond ⟨byte i.val, tag, .badValue, false, []⟩))) ∧
    (k.toNat ≤ 1 → q.state ∈ [.empty, .seated, .spindown, .toteWait, .unloadReady] →
      exec .abortSlot s = .next (s.put ((s.part.taken r rest).respond ⟨byte i.val, tag, .wrongState, false, []⟩))) ∧
    (k.toNat ≤ 1 → q.state = .powerWait →
      ∃ p : Part, exec .abortSlot s = .next (s.put (p.respond ⟨byte i.val, tag, .ok, false, []⟩)) ∧
        p.spinQueue = s.part.spinQueue.filter (fun j => j ≠ i) ∧ p.spinCount = s.part.spinCount ∧
        ((p.slot i).state = .toteWait ∨ (p.slot i).state = .unloadReady) ∧ (p.slot i).retry = false ∧
        (p.slot i).disposition = some (q.disposition.getD c.disposition) ∧
        (p.slot i).reason = (if q.disposition = none then c.reason else q.reason) ∧
        (p.slot i).tote = some (s.part.tables.bins[q.disposition.getD c.disposition]).tote ∧
        (∀ j, j ≠ i → p.slot j = s.part.slot j)) ∧
    (k.toNat ≤ 1 → q.state.powered = true → i ∉ s.part.spinQueue →
      ∃ p : Part, exec .abortSlot s = .next (s.put (p.respond ⟨byte i.val, tag, .ok, false, []⟩)) ∧
        EndedEarly i c s.part p ∧
        p.trunk.completions = s.part.trunk.completions ++ s.part.endCompletions i .aborted)

/-- SERVICE (R164, R161): every flagged slot that is RUNNING or CONDEMNED is listed as serviced, and its watchdog, where its step has one, restarts at stage 0; no other slot and nothing else changes. -/
def Obligations.ServiceAnswers : Prop :=
  ∀ (source : Mac) (tag : Byte) (set : BitVec 24) (rest : List Request) (s : State),
    let r : Request := ⟨source, 255, tag, 0x23, slotSetBytes set⟩
    s.part.Head r rest →
    ∃ (p : Part) (served : BitVec 24),
      exec .service s = .next (s.put (p.respond ⟨255, tag, .ok, false, slotSetBytes served⟩)) ∧
      p = { s.part.taken r rest with slots := p.slots } ∧
      ∀ i : SlotId,
        (served[i] = true ↔ set[i] = true ∧ ((s.part.slot i).state = .running ∨ (s.part.slot i).state = .condemned)) ∧
        p.slot i = if served[i] = true ∧ 0 < s.part.interval i then
            { s.part.slot i with
              stage1 := false
              silenceTimer := some ⟨s.part.interval i, 0⟩
              lamp := if (s.part.slot i).state = .running then ⟨.green, .steady⟩ else ⟨.amber, .hz2⟩
              power := true }
          else s.part.slot i

/-- TOTE_SWAP (R185, R182): the refusals; and the swap, with the wait queue (each slot in it once) served from its head until the tote is full or the queue is empty. -/
def Obligations.ToteSwapAnswers : Prop :=
  ∀ (source : Mac) (tag n : Byte) (rest : List Request) (s : State),
    let r : Request := ⟨source, 255, tag, 0x30, [n]⟩
    s.part.Head r rest →
    (7 < n.toNat →
      exec .toteSwap s = .next (s.put ((s.part.taken r rest).respond ⟨255, tag, .badIndex, false, []⟩))) ∧
    (∀ h : n.toNat < 8,
      let t : ToteId := ⟨n.toNat, h⟩
      let old := s.part.tote t
      ((∃ e ∈ old.manifest, e.placed = false) →
        exec .toteSwap s = .next (s.put ((s.part.taken r rest).respond ⟨255, tag, .toteBusy, false, []⟩))) ∧
      ((∀ e ∈ old.manifest, e.placed = true) → 1 ≤ s.part.tables.capacities[t] → old.wait.Nodup →
        let cap := s.part.tables.capacities[t]
        ∃ p : Part, exec .toteSwap s = .next (s.put (p.respond ⟨255, tag, .ok, false, []⟩)) ∧
          (p.tote t).state = (if cap ≤ old.wait.length then .full else .opened) ∧
          (p.tote t).wait = old.wait.drop cap ∧
          (p.tote t).manifest.length = min cap old.wait.length ∧
          (∀ (j : Nat) (i : SlotId), j < cap → old.wait[j]? = some i →
            (p.slot i).state = .unloadReady ∧ (p.slot i).position = some (j + 1)) ∧
          (∀ i : SlotId, i ∉ old.wait.take cap → SlotBecomes i (s.part.slot i) s.part p) ∧
          (∀ u, u ≠ t → p.tote u = s.part.tote u) ∧ p.trunk.completions = s.part.trunk.completions))

/-- TOTE_WITHDRAW (R186): the refusals in their order; otherwise the manifest is emptied, so the fill is 0, the tote is ABSENT, its wait queue stays, and nothing else changes. -/
def Obligations.ToteWithdrawAnswers : Prop :=
  ∀ (source : Mac) (tag n : Byte) (rest : List Request) (s : State),
    let r : Request := ⟨source, 255, tag, 0x31, [n]⟩
    s.part.Head r rest →
    (7 < n.toNat →
      exec .toteWithdraw s = .next (s.put ((s.part.taken r rest).respond ⟨255, tag, .badIndex, false, []⟩))) ∧
    (∀ h : n.toNat < 8,
      let t : ToteId := ⟨n.toNat, h⟩
      let old := s.part.tote t
      (old.state = .absent →
        exec .toteWithdraw s = .next (s.put ((s.part.taken r rest).respond ⟨255, tag, .wrongState, false, []⟩))) ∧
      (old.state ≠ .absent → (∃ e ∈ old.manifest, e.placed = false) →
        exec .toteWithdraw s = .next (s.put ((s.part.taken r rest).respond ⟨255, tag, .toteBusy, false, []⟩))) ∧
      (old.state ≠ .absent → (∀ e ∈ old.manifest, e.placed = true) →
        exec .toteWithdraw s = .next (s.put (((s.part.taken r rest).modTote t fun _ => ⟨.absent, [], old.wait⟩).respond
          ⟨255, tag, .ok, false, []⟩))))

/-- RESET_TRAFFIC (R14, R46, R89): the upstream completions are gone, a completion frame being sent is cut short, the run count is 0, and nothing else of the Trunk Port changes but its notices; every slot's list is empty, its lane OPEN with RESET_LANE where a drive is present and no recovery window, and a COMMAND being sent is cut short; a slot not in DRAINING keeps every other field of its record, and a slot in DRAINING ends DRAINING (R30), here where the spin-down wait is not 0. The zones are judged beforehand (an invariant), and a slot in DRAINING has its retry flag clear (R167). The last frame and the last lane unit are the model's own fields (log entry 20: DESIGN CHOICE). -/
def Obligations.TrafficResetAnswers : Prop :=
  ∀ (source : Mac) (tag : Byte) (rest : List Request) (s : State),
    let r : Request := ⟨source, 255, tag, 0x40, []⟩
    s.part.Head r rest → s.part.ZonesJudged →
    (∀ i, (s.part.slot i).state = .draining → (s.part.slot i).retry = false) →
    let wait := s.part.tables.rack.spindownWait
    ∃ p : Part, exec .resetTraffic s = .next (s.put (p.respond ⟨255, tag, .ok, false, []⟩)) ∧
      TrunkPort.SameButNotices { (s.part.taken r rest).trunk with
        completions := [], runCount := 0, tx := p.trunk.tx, lastFrame := p.trunk.lastFrame } p.trunk ∧
      (∀ f, s.part.trunk.tx = .sending .completion f → p.trunk.tx = .idle ∧ p.trunk.lastFrame = some (.cutShort f)) ∧
      ((∀ f, s.part.trunk.tx ≠ .sending .completion f) →
        p.trunk.tx = s.part.trunk.tx ∧ p.trunk.lastFrame = s.part.trunk.lastFrame) ∧
      p.spinQueue = s.part.spinQueue ∧ p.spinCount = s.part.spinCount ∧ p.tables = s.part.tables ∧
      p.seconds = s.part.seconds ∧ p.ms = s.part.ms ∧ p.door = s.part.door ∧ p.loader = s.part.loader ∧
      p.busRead = s.part.busRead ∧ (0 < wait → p.totes = s.part.totes) ∧
      ∀ i : SlotId,
        let q : Slot := { s.part.slot i with
          outstanding := []
          lane := .opened
          recoveryTimer := none
          laneTx := (p.slot i).laneTx
          laneOut := (p.slot i).laneOut }
        (p.slot i).outstanding = [] ∧ (p.slot i).lane = .opened ∧ (p.slot i).recoveryTimer = none ∧
        LaneReset (s.part.slot i) (p.slot i) ∧ ((s.part.slot i).state ≠ .draining → p.slot i = q) ∧
        ((s.part.slot i).state = .draining → 0 < wait → DrainingEnds i (s.part.modSlot i fun _ => q) p)

/-- RESET_RACK (R15, R45, R92, R140, R158, R173, R190): every block as its rule gives, then each enabled slot whose debounced presence is PRESENT is SEATED; the tables, the lines, the time, and the Trunk Port but its completions, its run count, a completion frame being sent, which is cut short, and its notices, are kept. That the heater drive keeps its held duty to the next period is log entry 33 (DESIGN CHOICE), the blink STEADY of an OFF lamp 14 (DEDUCED), the 1 s ticks still due to a slot 4 (DESIGN CHOICE), and the last frame and lane unit 20 (DESIGN CHOICE). -/
def Obligations.RackResetAnswers : Prop :=
  ∀ (source : Mac) (tag : Byte) (rest : List Request) (s : State),
    let r : Request := ⟨source, 255, tag, 0x41, []⟩
    s.part.Head r rest →
    ∃ p : Part, exec .resetRack s = .next (s.put (p.respond ⟨255, tag, .ok, false, []⟩)) ∧
      TrunkPort.SameButNotices { (s.part.taken r rest).trunk with
        completions := [], runCount := 0, tx := p.trunk.tx, lastFrame := p.trunk.lastFrame } p.trunk ∧
      (∀ f, s.part.trunk.tx = .sending .completion f → p.trunk.tx = .idle ∧ p.trunk.lastFrame = some (.cutShort f)) ∧
      ((∀ f, s.part.trunk.tx ≠ .sending .completion f) →
        p.trunk.tx = s.part.trunk.tx ∧ p.trunk.lastFrame = s.part.trunk.lastFrame) ∧
      p.spinQueue = [] ∧ p.spinCount = 0 ∧ p.tables = s.part.tables ∧ p.loader = s.part.loader ∧
      p.seconds = s.part.seconds ∧ p.ms = s.part.ms ∧ p.door = s.part.door ∧ p.busRead = s.part.busRead ∧
      (∀ k, p.tote k = ⟨.absent, [], []⟩) ∧
      (∀ z, p.zone z = { state := if s.part.door.value then .held else .idle, temperature := none, lastSample := none,
                         invalidRun := 0, validRun := 0, sensorFault := false, request := none, target := none,
                         rampAcc := 0, integral := 0, duty := 0, heldDuty := (s.part.zone z).heldDuty,
                         fan := s.part.tables.rack.fanBase, alarm := .stopped }) ∧
      ∀ i : SlotId,
        let old := s.part.slot i
        let seat := decide (s.part.tables.rack.enables[i] = true ∧ old.presence.value = true)
        LaneReset old (p.slot i) ∧
        p.slot i =
          { state := if seat then .seated else .empty, recipe := none, stepIndex := 0, elapsed := 0, dwell := 0,
            stepDone := false, shortfall := 0, retests := 0, disposition := none, reason := .none, density := none,
            identity := none, retry := false, stage1 := false, silenceTimer := none, tote := none, position := none,
            lane := .opened, recoveries := 0, lamp := if seat then ⟨.amber, .steady⟩ else ⟨.off, .steady⟩,
            binLamp := none, sticky := ⟨false, false, false, false, false, false⟩, counters := ⟨0, 0, 0, 0⟩,
            testSeconds := 0, outstanding := [], laneTx := (p.slot i).laneTx, laneOut := (p.slot i).laneOut,
            noShowTimer := none, recoveryTimer := none, presence := old.presence, eject := old.eject,
            hold := if old.eject.value then .spent else .idle, holdTimer := none, power := false,
            spinupTimer := none, spindownTimer := none,
            acc := ⟨0, 0, 0, 0, 0, 0, Vector.replicate 8 0, false⟩, ticksDue := old.ticksDue }

/-! ### The upstream transmitter and the link -/

/-- TRANSMIT_CHOICE (R11, R2): nothing while a frame is being sent or the link is DOWN; else the response; else the completion at the head, unless none waits or 8 in a row have gone while notices wait; else the notice of the highest level, the one raised earliest among those. The run count follows. LINK_UP (R11) and LINK_DOWN (R12): the link state; a frame being sent is cut short and its item stays in its place. LINK_UP with the link UP and LINK_DOWN with the link DOWN are log entry 24 (DESIGN CHOICE), and the last frame is the model's own field (log entry 20: DESIGN CHOICE). The messages' layouts (Table 1-1, section 12.2, R202, Table 11-1): the header and the body of a MGMT_RESPONSE (R7), a SLOT_COMPLETION (R71, R80) and a NOTICE of each kind (R191), a value that is absent being sent as 0 (log entry 18: DEDUCED). -/
def Obligations.TransmitterChooses : Prop :=
  (∀ s : State,
     let t := s.part.trunk
     let frame (m : List Byte) : Frame := ⟨t.server, t.station, s.part.tables.rack.trunkType, m⟩
     let goes (t' : TrunkPort) : Host.Outcome State Fault Refusal := .next (s.put { s.part with trunk := t' })
     ((t.linkUp = false ∨ t.tx ≠ .idle) → exec .transmitChoice s = .next s) ∧
     (t.linkUp = true → t.tx = .idle →
       (∀ r, t.response = some r →
         exec .transmitChoice s = goes { t with tx := .sending .response (frame r.message) }) ∧
       (t.response = none → t.completions = [] → t.notices = [] → exec .transmitChoice s = .next s) ∧
       (∀ c rest, t.response = none → t.completions = c :: rest → t.notices = [] →
         exec .transmitChoice s = goes { t with tx := .sending .completion (frame c.message), runCount := 0 }) ∧
       (∀ c rest, t.response = none → t.completions = c :: rest → t.notices ≠ [] → t.runCount ≠ 8 →
         exec .transmitChoice s =
           goes { t with tx := .sending .completion (frame c.message), runCount := min 8 (t.runCount + 1) }) ∧
       (∀ (before after : List Notice) (n : Notice), t.response = none → t.completions = [] ∨ t.runCount = 8 →
         t.notices = before ++ n :: after → (∀ m ∈ before, m.level < n.level) → (∀ m ∈ after, m.level ≤ n.level) →
         exec .transmitChoice s =
           goes { t with
             tx := .sending .notice (frame n.message)
             runCount := 0
             notices := before ++ { n with sending := true } :: after }))) ∧
  (∀ s : State,
     let t := s.part.trunk
     exec .linkUp s = .next (s.put { s.part with trunk := { t with linkUp := true } }) ∧
     (t.tx = .idle → exec .linkDown s = .next (s.put { s.part with trunk := { t with linkUp := false } })) ∧
     (∀ src f, t.tx = .sending src f → exec .linkDown s = .next (s.put { s.part with
       trunk := { t with
         linkUp := false
         tx := .idle
         lastFrame := some (.cutShort f)
         notices := t.notices.map fun n => { n with sending := false } } }))) ∧
  (let msg (kind slot tag code : Byte) (body : List Byte) : List Byte :=
     [kind, slot, tag, code] ++ beBytes 2 body.length ++ body
   let flag (b : Bool) : Byte := if b then 1 else 0
   let num (n : Option Nat) : Byte := byte (n.getD 0)
   let ident (d : Identity) : List Byte := padTo 20 d.serial ++ padTo 8 d.firmware ++ beBytes 4 d.capacity
   let stateCode (st : SlotState) : Byte := byte ([SlotState.empty, .seated, .powerWait, .spinup, .ident, .running,
     .condemned, .draining, .spindown, .toteWait, .unloadReady].idxOf st)
   let reasonCode (r : Reason) : Byte := byte ([Reason.none, .condemnedUncorrectable, .coverage, .noShow, .powerFault,
     .overtemp, .unresponsive, .serverReject, .silent, .operator, .serverReturn].idxOf r)
   let lastCode (l : Option LastSample) : Byte :=
     byte ([none, some LastSample.valid, some .outOfRange, some .noAnswer].idxOf l)
   let signed (o : Option Int) : List Byte := beBytes 2 (BitVec.ofInt 16 (o.getD 0)).toNat
   (∀ r : Response, r.message = msg 4 r.slot r.tag (byte ([RespStatus.ok, .badRequest, .badIndex, .badValue, .duplicate,
       .inUse, .wrongState, .toteBusy, .configMissing, .notReady].idxOf r.status))
     (flag r.clamped :: if r.status = .ok then r.content else [])) ∧
   (∀ c : Completion, c.message = msg 2 (byte c.slot.val) c.tag
     (match c.status with
      | .drive d => byte ([DriveStatus.good, .corrected, .uncorrectable, .driveReject, .driveError].idxOf d)
      | .refusedState => 0x80
      | .refusedRecovering => 0x81
      | .refusedZone => 0x82
      | .refusedClass => 0x83
      | .refusedTag => 0x84
      | .refusedFull => 0x85
      | .refusedSize => 0x86
      | .timeout => 0x90
      | .aborted => 0x91
      | .removed => 0x92
      | .powerLost => 0x93)
     ([byte c.delta] ++ beBytes 2 c.coverage ++
       (match c.identity with
        | none => [0]
        | some d => 1 :: ident d) ++
       beBytes 4 c.latency ++ [byte c.step, byte c.cls.val])) ∧
   (∀ n : Notice,
     let inSlot (code : Byte) (i : SlotId) (details : List Byte) : List Byte :=
       msg 5 (byte i.val) 0 code ([byte n.level] ++ beBytes 4 n.stamp.toNat ++ [1, byte i.val] ++ details)
     let other (code kind number : Byte) (details : List Byte) : List Byte :=
       msg 5 255 0 code ([byte n.level] ++ beBytes 4 n.stamp.toNat ++ [kind, number] ++ details)
     n.message = match n.body with
       | .slotSeated i => inSlot 1 i []
       | .driveIdentified i d => inSlot 2 i (ident d)
       | .stepEnded i r k e d ending => inSlot 3 i ([num (r.map (·.val)), byte k] ++ beBytes 2 e ++ beBytes 2 d ++
           [byte ([Ending.dwellReached, .serverDone, .bothMet, .forced, .condemned].idxOf ending)])
       | .stepForced i r k short late e d sf => inSlot 4 i ([num (r.map (·.val)), byte k,
           byte ((if short then 1 else 0) + if late then 2 else 0)] ++ beBytes 2 e ++ beBytes 2 d ++ [byte sf])
       | .silenceWarning i r k interval ended =>
         inSlot 5 i ([num (r.map (·.val)), byte k] ++ beBytes 2 interval ++ [flag ended])
       | .slotCondemned i u => inSlot 6 i (beBytes 2 u)
       | .slotGraded i r retests d reason dd => inSlot 7 i ([num (r.map (·.val)), byte retests, num (d.map (·.val)),
           reasonCode reason, flag dd.isSome] ++ beBytes 2 (dd.getD 0))
       | .unloadReady i t pos d reason => inSlot 8 i [byte t.val, byte pos, num (d.map (·.val)), reasonCode reason]
       | .toteFull t fill waiting => other 9 3 (byte t.val) [byte fill, byte waiting]
       | .strayRemoval i t d => inSlot 10 i [num (t.map (·.val)), num (d.map (·.val))]
       | .drivePulled i left d reason serial => inSlot 11 i ([stateCode left, flag d.isSome, num (d.map (·.val)),
           reasonCode reason, flag serial.isSome] ++ padTo 20 (serial.getD []))
       | .laneRecovery i outcome tag recoveries => inSlot 12 i
           [byte ([RecoveryOutcome.started, .recovered, .failed, .exhausted].idxOf outcome),
            if outcome = .started ∨ outcome = .exhausted then tag else 0, byte recoveries]
       | .zoneAlarm z outcome t hard tripped => other 13 2 (byte z.val)
           ([byte ([AlarmOutcome.raised, .cleared, .tripped].idxOf outcome)] ++ signed t ++ beBytes 2 hard.toNat ++
             [flag tripped])
       | .zoneSensorFault z recovered last t =>
         other 14 2 (byte z.val) ([flag recovered, lastCode last, flag t.isSome] ++ signed t)
       | .doorChanged isOpen => other 15 0 0 [flag isOpen]
       | .configLoaded outcome applied skipped => other 16 0 0
           ([byte (1 + [LoadOutcome.applied, .checkFailed, .absent].idxOf outcome)] ++ beBytes 2 applied ++ beBytes 2 skipped)
       | .noticesLost count highest => other 17 0 0 (beBytes 2 count ++ [num highest])
       | .slotState i left entered => inSlot 18 i [stateCode left, stateCode entered]))

/-- FRAME_SEND_END (R12): the item leaves its source. A response empties the place; a refusal completion has no further effect; a completion of an entry releases the DONE entry with its tag (R81); a notice leaves the queue, and NOTICES_LOST takes the freed place if any was lost (R194), unless 64 notices are left. When the last completion of a DRAINING slot has been sent, DRAINING ends (R30, R117, R121, R122, R123, R126, R135): the grade is recorded unless a pair stands; a retest that the bin names, whose recipe is valid and for which the retest maximum leaves room, is taken; otherwise the slot is in SPINDOWN with its power off, its lane OPEN and the wait started, or past it where the wait is 0. With an idle transmitter the command has no effect (log entry 2: DESIGN CHOICE), and the last frame is the model's own field (log entry 20: DESIGN CHOICE). -/
def Obligations.FrameSendEnds : Prop :=
  (∀ s : State,
     let t := s.part.trunk
     (t.tx = .idle → exec .frameSendEnd s = .next s) ∧
     (∀ f, t.tx = .sending .response f →
       exec .frameSendEnd s = .next (s.put { s.part with
         serving := none
         trunk := { t with tx := .idle, lastFrame := some (.whole f), response := none } })) ∧
     (∀ f c rest, t.tx = .sending .completion f → t.completions = c :: rest →
       let p := { s.part with trunk := { t with tx := .idle, lastFrame := some (.whole f), completions := rest } }
       let left := (s.part.slot c.slot).outstanding.filter fun e => !(e.tag == c.tag && e.state == .done)
       (c.forEntry = false → exec .frameSendEnd s = .next (s.put p)) ∧
       (c.forEntry = true → (s.part.slot c.slot).state ≠ .draining ∨ left ≠ [] →
         exec .frameSendEnd s = .next (s.put (p.modSlot c.slot fun q => { q with outstanding := left })))) ∧
     (∀ f, t.tx = .sending .notice f →
       let left := t.notices.filter fun n => !n.sending
       let lost : NoticeBody := .noticesLost t.lostCount t.lostHighest
       (t.lostCount = 0 → exec .frameSendEnd s = .next (s.put { s.part with
         trunk := { t with tx := .idle, lastFrame := some (.whole f), notices := left } })) ∧
       (0 < t.lostCount → left.length < 64 → exec .frameSendEnd s = .next (s.put { s.part with
         trunk := { t with
           tx := .idle
           lastFrame := some (.whole f)
           notices := if s.part.tables.levels[16] = 0 then left
             else left ++ [⟨lost, s.part.tables.levels[16], s.part.seconds, false⟩]
           lostCount := 0
           lostHighest := none } })) ∧
       (0 < t.lostCount → 64 ≤ left.length → exec .frameSendEnd s = .next (s.put { s.part with
         trunk := { t with tx := .idle, lastFrame := some (.whole f), notices := left } })))) ∧
  (∀ (s : State) (f : Frame) (c : Completion) (rest : List Completion),
     s.part.trunk.tx = .sending .completion f → s.part.trunk.completions = c :: rest → c.forEntry = true →
     let q := s.part.slot c.slot
     let wait := s.part.tables.rack.spindownWait
     q.state = .draining → (∀ e ∈ q.outstanding, e.tag = c.tag ∧ e.state = .done) →
     ∃ p : Part, exec .frameSendEnd s = .next (s.put p) ∧
       DrainingEnds c.slot (s.part.modSlot c.slot fun _ => { q with outstanding := [] }) p ∧
       p.trunk.completions = rest ∧ p.tables = s.part.tables ∧ (0 < wait → p.totes = s.part.totes) ∧
       (0 < wait ∨ q.retry = false → p.spinQueue = s.part.spinQueue))

/-! ### Time and steps -/

/-- TIME_BASE_TICK (R47, R49, R142): the counts advance, every running timer counts a tick of its own resolution, a 100 ms tick begins a heater period in every zone (R147, log entry 33), a 1 s tick is due to each slot (log entry 4) and begins a round of sensor reads in READY, the first at the address of zone 0's sensor, unless a read is in progress (log entry 12: DEDUCED); in LOADING the loader counts the tick (R197, log entry 11); nothing else changes. A timer started with a length of N from 1 on is due once N + 1 ticks of its resolution have been counted, and not before (R49), and stays due until its expiry is commanded (log entry 3: DESIGN CHOICE); a length of 0 expires at the moment it is started (R49), as the statements of what starts it say. -/
def Obligations.TimeBaseTickCounts : Prop :=
  (∀ s : State, ∃ p : Part, exec .timeBaseTick s = .next (s.put p) ∧
     (s.part.ms < 999 → p.ms = s.part.ms + 1 ∧ p.seconds = s.part.seconds) ∧
     (999 ≤ s.part.ms → p.ms = 0 ∧ p.seconds = s.part.seconds + 1) ∧
     p.door = { s.part.door with timer := tickTimer s.part.door.timer } ∧
     p.busRead = (if p.ms = 0 ∧ s.part.loader.phase = .ready ∧ s.part.busRead = none then some ⟨0, 0x48, .temperature, ⟨49, 0⟩⟩
       else s.part.busRead.map fun b => { b with timer := b.timer.tick }) ∧
     (∀ z : ZoneId,
       let old := s.part.zone z
       p.zone z =
         { old with
           heldDuty := if p.ms % 100 = 0 then old.duty else old.heldDuty
           alarm := match old.alarm with
             | .running t => .running (if p.ms = 0 then t.tick else t)
             | .stopped => .stopped
             | .expired => .expired }) ∧
     p.loader = { s.part.loader with
       counted := if s.part.loader.phase = .loading then s.part.loader.counted + 1 else s.part.loader.counted } ∧
     p = { s.part with seconds := p.seconds, ms := p.ms, door := p.door, busRead := p.busRead, zones := p.zones,
                       slots := p.slots, loader := p.loader } ∧
     ∀ i : SlotId, p.slot i =
       let q := s.part.slot i
       let sec (o : Option Timer) : Option Timer := if p.ms = 0 then tickTimer o else o
       { q with
         presence := { q.presence with timer := tickTimer q.presence.timer }
         eject := { q.eject with timer := tickTimer q.eject.timer }
         outstanding := if p.ms % 100 = 0 then q.outstanding.map Entry.tick else q.outstanding
         noShowTimer := sec q.noShowTimer
         silenceTimer := sec q.silenceTimer
         recoveryTimer := sec q.recoveryTimer
         holdTimer := sec q.holdTimer
         spinupTimer := sec q.spinupTimer
         spindownTimer := sec q.spindownTimer
         ticksDue := if p.ms = 0 then q.ticksDue + 1 else q.ticksDue }) ∧
  (∀ N n : Nat, 1 ≤ N → (Timer.tick^[n] (Timer.start N)).due = decide (N < n))

/-- SLOT_SECOND_TICK (R18, R56 to R59): no effect where no 1 s tick is due (log entries 4 and 2: DESIGN CHOICE); test seconds in the states of R18; in RUNNING and CONDEMNED, short of the time limit, step elapsed and, where R57 and R58 hold and the dwell is not reached, dwell accrued; a met advance condition ends the step (R29, R55, R60): the next step, or DRAINING after the last one and in CONDEMNED. -/
def Obligations.SlotSecondTickCounts : Prop :=
  ∀ (i : SlotId) (s : State),
    let q := s.part.slot i
    let z := s.part.zone (zoneOf i)
    (q.ticksDue = 0 → exec (.slotSecondTick i) s = .next s) ∧
    (0 < q.ticksDue → q.state ≠ .running → q.state ≠ .condemned →
      exec (.slotSecondTick i) s = .next (s.put (s.part.modSlot i fun _ => { q with
        ticksDue := q.ticksDue - 1
        testSeconds := if q.state ∈ [.powerWait, .spinup, .ident, .draining, .spindown]
          then min 4294967295 (q.testSeconds + 1) else q.testSeconds }))) ∧
    (∀ (e : StepEntry) (credit : Bool), 0 < q.ticksDue → (q.state = .running ∨ q.state = .condemned) →
      s.part.currentStep i = some e → (e.limit = 0 ∨ q.elapsed ≠ e.limit) →
      (credit = true ↔ s.part.door.value = false ∧ q.stage1 = false ∧ (z.state = .regulating ∨ z.state = .idle) ∧
        (∃ t, z.temperature = some t ∧ (e.tolerance = 0 ∨ e.setPoint = 0 ∨
          (e.setPoint - e.tolerance ≤ t ∧ t ≤ e.setPoint + e.tolerance))) ∧ q.dwell < e.dwell) →
      let q' : Slot := { q with
        ticksDue := q.ticksDue - 1
        testSeconds := min 4294967295 (q.testSeconds + 1)
        elapsed := min 65535 (q.elapsed + 1)
        dwell := if credit then q.dwell + 1 else q.dwell }
      let met := e.dwell ≤ q'.dwell ∧ (e.advance = .dwell ∨ (e.advance = .both ∧ q.stepDone = true))
      (¬ met → exec (.slotSecondTick i) s = .next (s.put (s.part.modSlot i fun _ => q'))) ∧
      (met → ∃ p : Part, exec (.slotSecondTick i) s = .next (s.put p) ∧ StepEnds i (s.part.modSlot i fun _ => q') p))

/-- STEP_TIME_LIMIT_EXPIRY (R56, R62): it is the slot's 1 s tick where that finds step elapsed at the time limit, and nothing elsewhere (log entries 4 and 2: DESIGN CHOICE); the step is forced to end, with the shortfall counted and SHORTFALL latched where the dwell is short (R29, R55, R60): the next step, or DRAINING after the last one and in CONDEMNED. -/
def Obligations.StepTimeLimitForces : Prop :=
  ∀ (i : SlotId) (s : State),
    let q := s.part.slot i
    ((q.state ≠ .running ∧ q.state ≠ .condemned) →
      exec (.stepTimeLimitExpiry i) s = .next s) ∧
    (∀ e : StepEntry, s.part.currentStep i = some e → (e.limit = 0 ∨ q.elapsed ≠ e.limit) →
      exec (.stepTimeLimitExpiry i) s = .next s) ∧
    (∀ e : StepEntry, (q.state = .running ∨ q.state = .condemned) → s.part.currentStep i = some e → e.limit ≠ 0 →
      q.elapsed = e.limit →
      exec (.stepTimeLimitExpiry i) s = exec (.slotSecondTick i) s ∧
      (0 < q.ticksDue →
        let short := decide (e.advance ≠ .server ∧ q.dwell < e.dwell)
        ∃ p : Part, exec (.stepTimeLimitExpiry i) s = .next (s.put p) ∧ StepEnds i (s.part.modSlot i fun _ => { q with
          ticksDue := q.ticksDue - 1
          testSeconds := min 4294967295 (q.testSeconds + 1)
          shortfall := if short then min 255 (q.shortfall + 1) else q.shortfall
          sticky := { q.sticky with shortfall := if short then true else q.sticky.shortfall } }) p))

/-! ### Lines -/

/-- PRESENCE_LINE_CHANGE, EJECT_LINE_CHANGE and DOOR_LINE_CHANGE (R20, R169, R171): the raw line takes the level that the command carries (log entry 8: DESIGN CHOICE); timing with the window of the line starts when it leaves the debounced value and ends without effect when it returns to it. PRESENCE_ARRIVAL (R20, R21): once the raw line has shown PRESENT for the whole window against ABSENT, the debounced value becomes PRESENT; in READY an EMPTY, enabled slot is SEATED, with SLOT_SEATED and then SLOT_STATE raised. Otherwise the command has no effect (log entry 2: DESIGN CHOICE). -/
def Obligations.PresenceIsTimedAndSeats : Prop :=
  (∀ (i : SlotId) (v : Bool) (s : State), exec (.presenceLineChange i v) s =
    .next (s.put (s.part.modSlot i fun q => { q with
      presence := if v = q.presence.raw then q.presence
        else ⟨v, q.presence.value, if v = q.presence.value then none else some ⟨250, 0⟩⟩ }))) ∧
  (∀ (i : SlotId) (v : Bool) (s : State), exec (.ejectLineChange i v) s =
    .next (s.put (s.part.modSlot i fun q => { q with
      eject := if v = q.eject.raw then q.eject
        else ⟨v, q.eject.value, if v = q.eject.value then none else some ⟨50, 0⟩⟩ }))) ∧
  (∀ (v : Bool) (s : State), exec (.doorLineChange v) s =
    .next (s.put { s.part with
      door := if v = s.part.door.raw then s.part.door
        else ⟨v, s.part.door.value, if v = s.part.door.value then none else some ⟨250, 0⟩⟩ })) ∧
  (∀ (i : SlotId) (s : State),
     let q := s.part.slot i
     let due := timerDue q.presence.timer = true ∧ q.presence.raw = true ∧ q.presence.value = false
     let seats := s.part.loader.phase = .ready ∧ q.state = .empty ∧ s.part.tables.rack.enables[i] = true
     let p := s.part.modSlot i fun x => { x with presence := ⟨true, true, none⟩ }
     (¬ due → exec (.presenceArrival i) s = .next s) ∧
     (due → ¬ seats → exec (.presenceArrival i) s = .next (s.put p)) ∧
     (due → seats → exec (.presenceArrival i) s = .next (s.put (((p.raise (.slotSeated i)).modSlot i fun x =>
       { x with state := .seated, lamp := ⟨.amber, .steady⟩, power := false }).raise (.slotState i .empty .seated)))))

/-- PRESENCE_LOSS (R20, R38, R17, R76): the debounced value becomes ABSENT, and the slot is EMPTY with its fields at "On entering EMPTY", its list empty and its lane send cut short; entries not DONE get REMOVED completions; the slot leaves the spin-up queue or its tote's wait queue, or SPINUP with the grants that follow (R130); in UNLOAD_READY its RESERVED manifest entry becomes PLACED. Sticky conditions, counters, accumulators and the eject button stay, and no other slot changes but by a grant. The zones are judged beforehand, and a slot in SPINUP is not in the spin-up queue (invariants). Where the line has not shown ABSENT for the whole window the command has no effect (log entry 2: DESIGN CHOICE); the blink STEADY of the OFF lamp is log entry 14 (DEDUCED), and the last lane unit is the model's own field (log entry 20: DESIGN CHOICE). -/
def Obligations.PresenceLossEmpties : Prop :=
  ∀ (i : SlotId) (s : State),
    let q := s.part.slot i
    let due := timerDue q.presence.timer = true ∧ q.presence.raw = false ∧ q.presence.value = true
    let cut (unit : List Byte) (o : Option LaneEnd) : Prop := ∃ n, n ≤ unit.length - 1 ∧ o = some (.cutShort (cutUnit unit n))
    (¬ due → exec (.presenceLoss i) s = .next s) ∧
    (due → s.part.ZonesJudged → (q.state = .spinup → i ∉ s.part.spinQueue) →
      ∃ p : Part, exec (.presenceLoss i) s = .next (s.put p) ∧
        (let x : Slot := { q with presence := ⟨false, false, none⟩, laneTx := .idle, laneOut := (p.slot i).laneOut }
         p.slot i = if q.state = .empty then x else x.emptied) ∧
        (q.laneTx = .idle → (p.slot i).laneOut = q.laneOut) ∧
        (∀ tag unit, q.laneTx = .command tag unit → cut unit (p.slot i).laneOut) ∧
        (q.laneTx = .resetLane → cut resetLaneUnit (p.slot i).laneOut) ∧
        p.trunk.completions = (if q.state ∈ [.ident, .running, .condemned, .draining]
          then s.part.trunk.completions ++ s.part.endCompletions i .removed else s.part.trunk.completions) ∧
        (q.state ≠ .spinup → p.spinCount = s.part.spinCount ∧
          p.spinQueue = (if q.state = .powerWait then s.part.spinQueue.filter (fun j => j ≠ i) else s.part.spinQueue) ∧
          ∀ j, j ≠ i → p.slot j = s.part.slot j) ∧
        (q.state = .spinup → s.part.QueuesSound → Grants s.part s.part.spinQueue (s.part.spinCount - 1)
          (fun k => if k = i then p.slot i else s.part.slot k) p) ∧
        (∀ t, q.state = .toteWait → q.tote = some t →
          p.tote t = { s.part.tote t with wait := (s.part.tote t).wait.filter (fun j => j ≠ i) }) ∧
        (∀ t pos, q.state = .unloadReady → q.tote = some t → q.position = some pos →
          p.tote t = { s.part.tote t with manifest := (s.part.tote t).manifest.map fun e =>
            if e.position = pos ∧ e.slot = i ∧ e.placed = false then { e with placed := true } else e }) ∧
        (q.state ≠ .toteWait → q.state ≠ .unloadReady → p.totes = s.part.totes))

/-- EJECT_PRESSED, EJECT_RELEASED and EJECT_HOLD_EXPIRY (R169, R170): a press from IDLE starts the hold timer with the eject hold field, a release stops it; the timer's expiry makes the hold SPENT and is an abort with RETURN and reason OPERATOR (R33), which in POWER_WAIT takes the slot out of the spin-up queue to its place or its wait queue, ends a powered test early, and has no effect in the states R170 names. Where the line has not shown its level for the whole window, or the hold timer is not due, the command has no effect (log entry 2: DESIGN CHOICE). -/
def Obligations.EjectButtonHolds : Prop :=
  ∀ (i : SlotId) (s : State),
    let q := s.part.slot i
    let pressDue := timerDue q.eject.timer = true ∧ q.eject.raw = true ∧ q.eject.value = false
    let releaseDue := timerDue q.eject.timer = true ∧ q.eject.raw = false ∧ q.eject.value = true
    let holdDue := q.hold = .timing ∧ timerDue q.holdTimer = true
    (¬ pressDue → exec (.ejectPressed i) s = .next s) ∧
    (pressDue → exec (.ejectPressed i) s = .next (s.put (s.part.modSlot i fun x => { x with
      eject := ⟨true, true, none⟩
      hold := if x.hold = .idle then .timing else x.hold
      holdTimer := if x.hold = .idle then some ⟨s.part.tables.rack.ejectHold, 0⟩ else x.holdTimer }))) ∧
    (¬ releaseDue → exec (.ejectReleased i) s = .next s) ∧
    (releaseDue → exec (.ejectReleased i) s = .next (s.put (s.part.modSlot i fun x => { x with
      eject := ⟨false, false, none⟩
      hold := .idle
      holdTimer := none }))) ∧
    (¬ holdDue → exec (.ejectHoldExpiry i) s = .next s) ∧
    (holdDue → q.state ∈ [.empty, .seated, .spindown, .toteWait, .unloadReady] →
      exec (.ejectHoldExpiry i) s = .next (s.put (s.part.modSlot i fun x => { x with hold := .spent, holdTimer := none }))) ∧
    (holdDue → q.state = .powerWait →
      ∃ p : Part, exec (.ejectHoldExpiry i) s = .next (s.put p) ∧
        p.spinQueue = s.part.spinQueue.filter (fun j => j ≠ i) ∧ p.spinCount = s.part.spinCount ∧
        (∀ j, j ≠ i → p.slot j = s.part.slot j) ∧ p.trunk.completions = s.part.trunk.completions ∧
        p.slot i = { s.part.sorted { q with
          hold := .spent
          holdTimer := none
          retry := false
          disposition := some (q.disposition.getD 8)
          reason := if q.disposition = none then .operator else q.reason } with spindownTimer := q.spindownTimer }) ∧
    (holdDue → q.state.powered = true → i ∉ s.part.spinQueue →
      ∃ p : Part, exec (.ejectHoldExpiry i) s = .next (s.put p) ∧ EndedEarly i ⟨.aborted, 8, .operator⟩ s.part p ∧
        (p.slot i).hold = .spent ∧ (p.slot i).holdTimer = none ∧
        p.trunk.completions = s.part.trunk.completions ++ s.part.endCompletions i .aborted)

/-- DOOR_CHANGED (R171, R172, R146, R147, R139): the debounced door takes the raw level and DOOR_CHANGED is raised; an opening takes REGULATING and IDLE zones to HELD with the heater at 0 and the fan at base; a closing takes HELD zones to REGULATING, its ramp afresh from the zone's temperature, or to IDLE, and is an occasion for a grant to the waiting slots. The zones' states are judged beforehand, and the queues are sound (invariants). Where the raw line has not differed for the whole window the command has no effect (log entry 2: DESIGN CHOICE). -/
def Obligations.DoorChangeJudgesZones : Prop :=
  ∀ s : State,
    let d := s.part.door
    let due := timerDue d.timer = true ∧ d.raw ≠ d.value
    (¬ due → exec .doorChanged s = .next s) ∧
    (due → s.part.ZonesJudged → (d.raw = true ∨ s.part.spinQueue = [] ∨ s.part.QueuesSound) →
      ∃ p : Part, exec .doorChanged s = .next (s.put p) ∧ p.door = ⟨d.raw, d.raw, none⟩ ∧
        (d.raw = true ∨ s.part.spinQueue = [] →
          p = { (s.part.raise (.doorChanged d.raw)) with door := p.door, zones := p.zones }) ∧
        (d.raw = false → s.part.QueuesSound →
          Grants { s.part with door := p.door } s.part.spinQueue s.part.spinCount s.part.slot p ∧
          p.tables = s.part.tables ∧ p.totes = s.part.totes ∧ s.part.trunk.SameButNotices p.trunk) ∧
        ∀ z : ZoneId,
          let old := s.part.zone z
          p.zone z =
            if d.raw = true ∧ (old.state = .regulating ∨ old.state = .idle) then
              { old with
                state := .held
                duty := 0
                fan := s.part.tables.rack.fanBase
                integral := if old.state = .regulating then 0 else old.integral
                rampAcc := if old.state = .regulating then 0 else old.rampAcc
                target := if old.state = .regulating then none else old.target }
            else if d.raw = false ∧ old.state = .held then
              if old.request.isSome ∧ old.temperature.isSome then
                { old with state := .regulating, target := old.temperature, rampAcc := 0, integral := 0 }
              else { old with state := .idle, duty := 0, fan := s.part.tables.rack.fanBase }
            else old)

/-! ### Power -/

/-- SPINUP_WINDOW_EXPIRY (R134, R25, R88, R74, R130): an expired window takes the slot from SPINUP to IDENT with its power on, the identity probe (the code of the lowest-index valid class-0 filter entry) in its empty list and the no-show window started, and an idle OPEN lane begins the probe; with no such filter entry it is a no-show at once (R27). The place in the budget that it leaves is an occasion for a grant to the waiting slots. A slot in SPINUP is not in the spin-up queue, and the queues are sound (invariants). On a slot not in SPINUP or a window not expired the command has no effect (log entry 2: DESIGN CHOICE). -/
def Obligations.SpinupWindowExpires : Prop :=
  ∀ (i : SlotId) (s : State),
    let q := s.part.slot i
    let due := q.state = .spinup ∧ timerDue q.spinupTimer = true
    (¬ due → exec (.spinupWindowExpiry i) s = .next s) ∧
    (due → i ∉ s.part.spinQueue →
      (∀ j : Fin 64, s.part.tables.filters[j].valid = true → s.part.tables.filters[j].cls = 0 →
        (∀ m : Fin 64, m < j → s.part.tables.filters[m].valid = true → s.part.tables.filters[m].cls ≠ 0) →
        let code := s.part.tables.filters[j].code
        ∃ p : Part, exec (.spinupWindowExpiry i) s = .next (s.put p) ∧
          (s.part.spinQueue = [] → p.spinCount = s.part.spinCount - 1) ∧ p.trunk.completions = s.part.trunk.completions ∧
          p.slot i = { q with
            state := .ident
            lamp := ⟨.green, .hz2⟩
            power := true
            spinupTimer := none
            outstanding := [{ tag := 255, code := code, body := [], cls := 0, timeout := 0, slow := 0, coverage := false,
                              scored := false, step := 255, state := .queued }]
            noShowTimer := some ⟨s.part.tables.rack.noShowWindow, 0⟩
            laneTx := if q.laneTx = .idle ∧ q.lane = .opened then .command 255 (commandUnit 255 code []) else q.laneTx
            sticky := { q.sticky with zoneAlarmSeen := (p.slot i).sticky.zoneAlarmSeen } } ∧
          (s.part.QueuesSound → (p.slot i).sticky = q.sticky ∧
            Grants s.part s.part.spinQueue (s.part.spinCount - 1)
              (fun k => if k = i then p.slot i else s.part.slot k) p)) ∧
      ((∀ j : Fin 64, s.part.tables.filters[j].valid = true → s.part.tables.filters[j].cls ≠ 0) →
        0 < s.part.tables.rack.spindownWait →
        ∃ p : Part, exec (.spinupWindowExpiry i) s = .next (s.put p) ∧ (p.slot i).state = .spindown ∧
          (p.slot i).retry = !q.retry ∧ (p.slot i).outstanding = [] ∧ (p.slot i).power = false) ∧
      ((∀ j : Fin 64, s.part.tables.filters[j].valid = true → s.part.tables.filters[j].cls ≠ 0) → s.part.QueuesSound →
        ∃ p : Part, exec (.spinupWindowExpiry i) s = .next (s.put p) ∧
          NoShow i { s.part.modSlot i (fun _ => { q with spinupTimer := none }) with
            spinCount := s.part.spinCount - 1 } p ∧
          (0 < s.part.tables.rack.spindownWait ∨ q.retry = true →
            Grants s.part s.part.spinQueue (s.part.spinCount - 1)
              (fun k => if k = i then p.slot i else s.part.slot k) p)))

/-- NO_SHOW_WINDOW_EXPIRY (R166, R27): a no-show in IDENT removes the probe without a completion, sends RESET_LANE, switches power off and starts the spin-down wait, or goes past a wait of 0; the first sets the retry flag, the second clears it and records 7, NO_SHOW (R35). LANE_COMPLETION of the identity probe in IDENT (R26, R27, R88, R106, R55): GOOD or CORRECTED with an identity captures it and enters step 0 in RUNNING; anything else is a no-show. No completion is made for the server. On a slot not in IDENT or a window not expired the command has no effect (log entry 2: DESIGN CHOICE), and the last lane unit is the model's own field (log entry 20: DESIGN CHOICE). -/
def Obligations.ProbeOrNoShow : Prop :=
  (∀ (i : SlotId) (s : State),
     let q := s.part.slot i
     let due := q.state = .ident ∧ timerDue q.noShowTimer = true
     (¬ due → exec (.noShowWindowExpiry i) s = .next s) ∧
     (due → ∃ p : Part, exec (.noShowWindowExpiry i) s = .next (s.put p) ∧ (s.part.QueuesSound → NoShow i s.part p) ∧
       p.trunk.completions = s.part.trunk.completions ∧ p.tables = s.part.tables ∧
       (0 < s.part.tables.rack.spindownWait → NoShow i s.part p ∧ (∀ j, j ≠ i → p.slot j = s.part.slot j) ∧
         p.spinQueue = s.part.spinQueue ∧ p.spinCount = s.part.spinCount))) ∧
  (∀ (i : SlotId) (unit : List Byte) (m : CompletionMsg) (e : Entry) (t0 : Time) (tm : Option Timer) (s : State),
     let q := s.part.slot i
     judgeUnit unit = .completion m → m.tag = 255 → q.state = .ident → q.outstanding = [e] → e.tag = 255 →
     e.state = .issued t0 tm →
     (∀ d : Identity, m.identity = some d → (m.status = .good ∨ m.status = .corrected) →
       ∃ p : Part, exec (.laneCompletion i unit) s = .next (s.put p) ∧
         p.trunk.completions = s.part.trunk.completions ∧ p.tables = s.part.tables ∧
         EntersStep i 0 (s.part.modSlot i fun _ => { q with
           identity := some d
           outstanding := []
           noShowTimer := none
           retry := false }) p) ∧
     ((m.identity = none ∨ (m.status ≠ .good ∧ m.status ≠ .corrected)) →
       ∃ p : Part, exec (.laneCompletion i unit) s = .next (s.put p) ∧
         p.trunk.completions = s.part.trunk.completions ∧
         (s.part.QueuesSound ∨ 0 < s.part.tables.rack.spindownWait → NoShow i s.part p)))

/-- SPINDOWN_WAIT_EXPIRY (R36, R37, R40, R133, R175, R178 to R181): with the retry flag set the slot rejoins the spin-up queue, or is granted its doubled window at once; with it clear the bin of its disposition names its tote, and the slot takes the next place of an OPEN tote, with the manifest entry RESERVED and the tote FULL if that was its last, or joins the tail of the wait queue. On a slot not in SPINDOWN or a wait not expired the command has no effect (log entry 2: DESIGN CHOICE), and a slot without a disposition is sorted as bin 8 (log entry 19: DESIGN CHOICE). -/
def Obligations.SpindownWaitExpires : Prop :=
  ∀ (i : SlotId) (s : State),
    let q := s.part.slot i
    let due := q.state = .spindown ∧ timerDue q.spindownTimer = true
    (¬ due → exec (.spindownWaitExpiry i) s = .next s) ∧
    (due → q.retry = true → s.part.NoGrantWaits →
      let granted := decide (s.part.spinQueue = [] ∧ s.part.spinCount < s.part.tables.rack.budget ∧
        s.part.door.value = false)
      ∃ p : Part, exec (.spindownWaitExpiry i) s = .next (s.put p) ∧
        p.spinQueue = (if granted then [] else s.part.spinQueue ++ [i]) ∧
        p.spinCount = s.part.spinCount + (if granted then 1 else 0) ∧
        (∀ j, j ≠ i → p.slot j = s.part.slot j) ∧
        p.slot i = { q with
          spindownTimer := none
          state := if granted then .spinup else .powerWait
          lamp := ⟨.green, if granted then .hz2 else .hz1⟩
          power := granted
          spinupTimer := if granted then some ⟨2 * s.part.tables.rack.spinupWindow, 0⟩ else q.spinupTimer }) ∧
    (due → q.retry = false →
      let b := s.part.tables.bins[q.disposition.getD 8]
      let old := s.part.tote b.tote
      let pos := old.manifest.length + 1
      ∃ p : Part, exec (.spindownWaitExpiry i) s = .next (s.put p) ∧
        (∀ j, j ≠ i → p.slot j = s.part.slot j) ∧ (∀ t, t ≠ b.tote → p.tote t = s.part.tote t) ∧
        p.spinQueue = s.part.spinQueue ∧
        (old.state = .opened →
          p.slot i = { q with
            spindownTimer := none
            tote := some b.tote
            binLamp := some ⟨b.colour, b.blink⟩
            position := some pos
            state := .unloadReady
            lamp := ⟨b.colour, b.blink⟩
            power := false } ∧
          p.tote b.tote = { old with
            state := if pos = s.part.tables.capacities[b.tote] then .full else .opened
            manifest := old.manifest ++
              [{ position := pos, slot := i, identity := q.identity, disposition := q.disposition, reason := q.reason,
                 density := q.density, retests := q.retests, recipe := q.recipe, testSeconds := q.testSeconds,
                 placed := false }] }) ∧
        (old.state ≠ .opened →
          p.slot i = { q with
            spindownTimer := none
            tote := some b.tote
            binLamp := some ⟨b.colour, b.blink⟩
            state := .toteWait
            lamp := ⟨b.colour, .hz1⟩
            power := false } ∧
          p.tote b.tote = { old with wait := old.wait ++ [i] }))

/-- CURRENT_FAULT (R137, R138, R31, R32): not acted on while the power enable line is off; a powered slot's test ends early with POWER_LOST for its entries and 7, POWER_FAULT. A slot that is powered is not in the spin-up queue (an invariant). -/
def Obligations.CurrentFaultEndsTest : Prop :=
  ∀ (i : SlotId) (s : State),
    ((s.part.slot i).power = false → exec (.currentFault i) s = .next s) ∧
    ((s.part.slot i).power = true → (s.part.slot i).state.powered = true → i ∉ s.part.spinQueue →
      ∃ p : Part, exec (.currentFault i) s = .next (s.put p) ∧ EndedEarly i ⟨.powerLost, 7, .powerFault⟩ s.part p ∧
        p.trunk.completions = s.part.trunk.completions ++ s.part.endCompletions i .powerLost ∧
        (s.part.spinQueue = [] → p.spinCount =
          if (s.part.slot i).state = .spinup then s.part.spinCount - 1 else s.part.spinCount))

/-! ### The lane -/

/-- LANE_COMMAND_SEND_END and RESET_LANE_SEND_END (R75, R74, R88): the entry sent is ISSUED with the part's time and, but for the probe, its command timer started with its copied timeout; then, and after RESET_LANE, an OPEN lane takes up the oldest QUEUED entry. Nothing else of the slot and nothing outside it changes. Where no such send is in progress the command has no effect (log entry 2: DESIGN CHOICE), and the last lane unit is the model's own field (log entry 20: DESIGN CHOICE). -/
def Obligations.LaneSendsEnd : Prop :=
  ∀ (i : SlotId) (s : State),
    let q := s.part.slot i
    let next (l : List Entry) (p : Part) : Prop :=
      ((q.lane = .recovering ∨ ∀ e ∈ l, e.state ≠ .queued) → (p.slot i).laneTx = .idle) ∧
      (∀ before e after, q.lane = .opened → l = before ++ e :: after → e.state = .queued →
        (∀ x ∈ before, x.state ≠ .queued) → (p.slot i).laneTx = .command e.tag (commandUnit e.tag e.code e.body))
    ((∀ tag unit, q.laneTx ≠ .command tag unit) → exec (.laneCommandSendEnd i) s = .next s) ∧
    (∀ tag unit, q.laneTx = .command tag unit →
      let l := q.outstanding.map fun e => if e.tag = tag then
        { e with state := .issued ⟨s.part.seconds, s.part.ms⟩ (if e.tag = 255 then none else some ⟨e.timeout, 0⟩) } else e
      ∃ p : Part, exec (.laneCommandSendEnd i) s = .next (s.put p) ∧ p = { s.part with slots := p.slots } ∧
        (∀ j, j ≠ i → p.slot j = s.part.slot j) ∧ next l p ∧
        p.slot i = { q with laneTx := (p.slot i).laneTx, laneOut := some (.whole unit), outstanding := l }) ∧
    (q.laneTx ≠ .resetLane → exec (.resetLaneSendEnd i) s = .next s) ∧
    (q.laneTx = .resetLane →
      ∃ p : Part, exec (.resetLaneSendEnd i) s = .next (s.put p) ∧ p = { s.part with slots := p.slots } ∧
        (∀ j, j ≠ i → p.slot j = s.part.slot j) ∧ next q.outstanding p ∧
        p.slot i = { q with laneTx := (p.slot i).laneTx, laneOut := some (.whole resetLaneUnit) })

/-- The units a carrier sends are read as what they are (R203): a COMPLETION with every field, with and without an identity, and LANE_READY; a unit cut short by the sender is always dropped, as is one whose check differs, one of another type, a LANE_READY with content, and a COMPLETION with a status above 4, an identity flag above 1, or a length that is not that of its flag (R77). LANE_MESSAGE_DROPPED counts a dropped unit and changes nothing else. -/
def Obligations.LaneUnitsAreJudged : Prop :=
  (∀ (tag st : Byte) (d : DriveStatus) (delta coverage : Nat) (identity : Option Identity),
    DriveStatus.ofByte st = some d → delta < 256 → coverage < 65536 →
    (∀ x, identity = some x → x.serial.length = 20 ∧ x.firmware.length = 8 ∧ x.capacity < 4294967296) →
    judgeUnit (completionUnit tag st delta coverage identity) = .completion ⟨tag, d, delta, coverage, identity⟩) ∧
  judgeUnit laneReadyUnit = .ready ∧
  (∀ (unit : List Byte) (n : Nat), judgeUnit (cutUnit unit n) = .dropped) ∧
  (∀ (t : Byte) (content : List Byte), t ≠ 2 → t ≠ 4 → judgeUnit (withCheck (t :: content)) = .dropped) ∧
  (∀ (tag st : Byte) (content : List Byte), 4 < st.toNat → judgeUnit (withCheck (2 :: tag :: st :: content)) = .dropped) ∧
  (∀ unit : List Byte, unit.length < 3 ∨ field unit (unit.length - 2) 2 ≠ laneSum (unit.take (unit.length - 2)) →
    judgeUnit unit = .dropped) ∧
  (∀ content : List Byte, content ≠ [] → judgeUnit (withCheck (4 :: content)) = .dropped) ∧
  (∀ content : List Byte, content.length < 6 → judgeUnit (withCheck (2 :: content)) = .dropped) ∧
  (∀ (tag st delta c1 c0 flag : Byte) (identity : List Byte),
    1 < flag.toNat ∨ (flag = 0 ∧ identity ≠ []) ∨ (flag = 1 ∧ identity.length ≠ 32) →
    judgeUnit (withCheck (2 :: tag :: st :: delta :: c1 :: c0 :: flag :: identity)) = .dropped) ∧
  (∀ (i : SlotId) (unit : List Byte) (s : State), judgeUnit unit = .dropped →
    exec (.laneMessageDropped i unit) s = .next (s.put (s.part.modSlot i fun q => { q with
      counters := { q.counters with laneErrors := min 65535 (q.counters.laneErrors + 1) } })))

/-- An orphan COMPLETION, whose tag no ISSUED entry holds (R79): the orphans counter and ORPHAN_SEEN, and nothing else, in every slot state. -/
def Obligations.OrphanIsDropped : Prop :=
  ∀ (i : SlotId) (unit : List Byte) (m : CompletionMsg) (s : State), judgeUnit unit = .completion m →
    (∀ e ∈ (s.part.slot i).outstanding, e.tag = m.tag → e.isIssued = false) →
    exec (.laneCompletion i unit) s = .next (s.put (s.part.modSlot i fun q => { q with
      counters := { q.counters with orphans := min 65535 (q.counters.orphans + 1) }
      sticky := { q.sticky with orphanSeen := true } }))

/-- LANE_COMPLETION matched to a server's ISSUED entry (R78, R80, R93 to R96, R104): the latency measured, the completion counted where R95 says, the entry DONE, and its completion appended with the drive's fields, the identity only for class 0. Where the count does not pass the cap nothing else changes; where it does, the record is frozen and the slot condemned (R28, R35): from RUNNING to the recipe's last step in CONDEMNED where that is a cooldown step not yet reached (R52, R65), and to DRAINING otherwise (R29, R55); in any other state it stays where it is. -/
def Obligations.CompletionIsMatched : Prop :=
  ∀ (i : SlotId) (unit : List Byte) (m : CompletionMsg) (e : Entry) (t0 : Time) (tm : Option Timer) (s : State),
    let q := s.part.slot i
    let latency := ((s.part.seconds - t0.seconds).toNat * 1000 + s.part.ms) - t0.ms
    let x : Handing := { status := .drive m.status, delta := m.delta, coverage := m.coverage, latency := latency,
                         cls := e.cls, covers := e.coverage, scored := e.scored, slow := e.slow, step := e.step }
    let counted := (∃ st, s.part.stepAt i e.step = some st ∧ st.scoring = true) ∧ e.scored = true ∧ q.acc.frozen = false
    let done := q.outstanding.map fun y => if y.tag = m.tag then { y with state := .done } else y
    let completions := s.part.trunk.completions ++
      [{ slot := i, tag := m.tag, status := .drive m.status, delta := m.delta, coverage := m.coverage,
         identity := if e.cls = 0 then m.identity else none, latency := latency, step := e.step, cls := e.cls,
         forEntry := true }]
    judgeUnit unit = .completion m → m.tag ≠ 255 → e.tag = m.tag → e.state = .issued t0 tm →
    (∃ before after, q.outstanding = before ++ e :: after ∧ ∀ y ∈ before, y.tag ≠ m.tag) →
    (¬ counted → exec (.laneCompletion i unit) s = .next (s.put
      ({ s.part with trunk := { s.part.trunk with completions := completions } }.modSlot i fun y =>
        { y with outstanding := done }))) ∧
    (counted → (q.acc.count x).u ≤ (s.part.limitsOf i).cap → exec (.laneCompletion i unit) s = .next (s.put
      ({ s.part with trunk := { s.part.trunk with completions := completions } }.modSlot i fun y =>
        { y with outstanding := done, acc := q.acc.count x }))) ∧
    (counted → (s.part.limitsOf i).cap < (q.acc.count x).u →
      let last := s.part.stepCount i - 1
      let p0 := s.part.modSlot i fun _ => { q with
        outstanding := done
        acc := { q.acc.count x with frozen := true }
        disposition := some (q.disposition.getD 7)
        reason := if q.disposition = none then .condemnedUncorrectable else q.reason }
      let jumps := (∃ st, s.part.stepAt i last = some st ∧ st.cooldown = true) ∧ q.stepIndex ≠ last
      ∃ p : Part, exec (.laneCompletion i unit) s = .next (s.put p) ∧ p.trunk.completions = completions ∧
        p.tables = s.part.tables ∧
        (q.state ≠ .running → p.slot i = p0.slot i) ∧
        (q.state = .running → ¬ jumps → Drains i p0 p) ∧
        (q.state = .running → jumps → p0.zeroDwell i last = false → SlotBecomes i { p0.inStep i last with
          state := .condemned
          lamp := ⟨.amber, .hz2⟩
          power := true } p0 p) ∧
        (q.state = .running → jumps → p0.zeroDwell i last = true → Drains i (p0.modSlot i fun _ => p0.inStep i last) p))

/-- LANE_READY (R84) and LANE_RECOVERY_WINDOW_EXPIRY (R85): LANE_READY ends a recovery, after which an idle lane takes up the oldest QUEUED entry (R74), and has no effect on an OPEN lane; the window's expiry with the lane still RECOVERING ends the test with 7, UNRESPONSIVE. On an OPEN lane or a window not expired the expiry has no effect (log entry 2: DESIGN CHOICE). -/
def Obligations.LaneRecoveryEnds : Prop :=
  ∀ (i : SlotId) (s : State),
    let q := s.part.slot i
    (q.lane = .opened → exec (.laneReady i) s = .next s) ∧
    (q.lane = .recovering →
      exec (.laneReady i) s = .next (s.put ((s.part.modSlot i fun x =>
        { x with lane := .opened, recoveryTimer := none, laneTx := x.takesUp }).raise
        (.laneRecovery i .recovered 0 q.recoveries)))) ∧
    ((q.lane = .opened ∨ timerDue q.recoveryTimer = false) →
      exec (.laneRecoveryWindowExpiry i) s = .next s) ∧
    (q.lane = .recovering → timerDue q.recoveryTimer = true → q.state ∈ [.running, .condemned, .draining] →
      ∃ p : Part, exec (.laneRecoveryWindowExpiry i) s = .next (s.put p) ∧
        EndedEarly i ⟨.aborted, 7, .unresponsive⟩ s.part p ∧
        p.trunk.completions = s.part.trunk.completions ++ s.part.endCompletions i .aborted)

/-- COMMAND_TIMEOUT (R82, R83, R105): the entry is DONE with TIMEOUT and handed to the Score Unit; with recoveries left, the other entries become ABORTED, oldest first, RESET_LANE is sent, the lane is RECOVERING with its window started and the count increased; at the recovery maximum the test ends with 7, UNRESPONSIVE. The record is frozen, as that of a condemned slot is, or U is at most the cap. The last lane unit is the model's own field (log entry 20: DESIGN CHOICE). -/
def Obligations.CommandTimesOut : Prop :=
  ∀ (i : SlotId) (tag : Byte) (e : Entry) (t0 : Time) (tm : Timer) (s : State),
    let q := s.part.slot i
    let made (st : Status) (y : Entry) : Completion :=
      { slot := i, tag := y.tag, status := st, delta := 0, coverage := 0, identity := none, latency := 0,
        step := y.step, cls := y.cls, forEntry := true }
    let others := q.outstanding.filter fun y => y.state != .done && y.tag != 255 && y.tag != tag
    let counted := (∃ st, s.part.stepAt i e.step = some st ∧ st.scoring = true) ∧ e.scored = true ∧ q.acc.frozen = false
    q.state ∈ [.running, .condemned, .draining] → tag ≠ 255 → e.tag = tag → e.state = .issued t0 (some tm) →
    tm.due = true → (∃ before after, q.outstanding = before ++ e :: after ∧ ∀ y ∈ before, y.tag ≠ tag) →
    q.acc.frozen = true ∨ q.acc.u ≤ (s.part.limitsOf i).cap →
    ∃ p : Part, exec (.commandTimeout i tag) s = .next (s.put p) ∧
      p.trunk.completions = s.part.trunk.completions ++ made .timeout e :: others.map (made .aborted) ∧
      (counted → (p.slot i).acc = { q.acc with f := min 65535 (q.acc.f + 1) }) ∧
      (¬ counted → (p.slot i).acc = q.acc) ∧
      (q.recoveries < s.part.tables.rack.recoveryMax →
        p.slot i = { q with
          acc := (p.slot i).acc
          outstanding := (q.outstanding.filter fun y => y.tag != 255).map fun y => { y with state := .done }
          laneTx := .resetLane
          laneOut := (p.slot i).laneOut
          lane := .recovering
          recoveries := q.recoveries + 1
          recoveryTimer := some ⟨s.part.tables.rack.recoveryWindow, 0⟩
          sticky := { q.sticky with laneRecovered := true } }) ∧
      (s.part.tables.rack.recoveryMax ≤ q.recoveries → EndedEarly i ⟨.aborted, 7, .unresponsive⟩ s.part p)

/-! ### Supervision and zones -/

/-- SILENCE_FIRST_EXPIRY and SILENCE_SECOND_EXPIRY (R162, R163): the first takes the watchdog to stage 1, restarts it, latches SILENCE_WARNED and raises SILENCE_WARNING; the second ends the test with 8, SILENT. Elsewhere, and on a timer not due, neither has an effect (log entry 2: DESIGN CHOICE). -/
def Obligations.SilenceExpiries : Prop :=
  ∀ (i : SlotId) (s : State),
    let q := s.part.slot i
    let due := (q.state = .running ∨ q.state = .condemned) ∧ timerDue q.silenceTimer = true
    (¬ due ∨ q.stage1 = true → exec (.silenceFirstExpiry i) s = .next s) ∧
    (¬ due ∨ q.stage1 = false → exec (.silenceSecondExpiry i) s = .next s) ∧
    (due → q.stage1 = false → exec (.silenceFirstExpiry i) s = .next (s.put ((s.part.modSlot i fun x => { x with
      stage1 := true
      silenceTimer := if s.part.interval i = 0 then none else some ⟨s.part.interval i, 0⟩
      lamp := if x.state = .running then ⟨.amber, .hz8⟩ else ⟨.amber, .hz2⟩
      power := true
      sticky := { x.sticky with silenceWarned := true } }).raise
        (.silenceWarning i q.recipe q.stepIndex (s.part.interval i) false)))) ∧
    (due → q.stage1 = true → ∃ p : Part, exec (.silenceSecondExpiry i) s = .next (s.put p) ∧
      EndedEarly i ⟨.aborted, 8, .silent⟩ s.part p ∧
      p.trunk.completions = s.part.trunk.completions ++ s.part.endCompletions i .aborted)

/-- The end of a sensor read (R142 to R144): a valid sample gives the zone its temperature and extends the valid run, another sample leaves the temperature and extends the invalid run, the other run becoming 0; the third in a row ends or sets the sensor fault; the read of the next zone, at its own address, begins, or the round ends; no other zone changes. In REGULATING, with a valid temperature below the hard limit (R148 to R151): one ramp move at most, the proportional-integral computation with its windup check, and the fan, and nothing else changes. SENSOR_READ_TIMEOUT (R142): a read that has not ended in 50 ms ends as a NO_ANSWER; the third invalid sample in a row sets the sensor fault, and the zone is in SENSOR_FAULT with its heater at 0 and its fan at 100. Without a read in progress, or before its bound, the commands have no effect (log entry 2: DESIGN CHOICE); the tick that finds 49 counted is the bound of 50 ms (log entry 12: DEDUCED). -/
def Obligations.SensorReadsEnd : Prop :=
  (∀ (v : BitVec 16) (s : State),
     (s.part.busRead = none → ∀ a, exec (.sensorSample a) s = .next s) ∧
     (∀ (b : BusRead) (a : SensorAnswer), s.part.busRead = some b →
       let z := s.part.zone b.zone
       let valid (v : BitVec 16) : Prop := -40 ≤ v.toInt ∧ v.toInt ≤ 220
       ∃ p : Part, exec (.sensorSample a) s = .next (s.put p) ∧
         p.busRead = (if h : b.zone.val + 1 < 6 then
           some ⟨⟨b.zone.val + 1, h⟩, 0x48 + BitVec.ofNat 7 (b.zone.val + 1), .temperature, ⟨49, 0⟩⟩ else none) ∧
         (∀ y, y ≠ b.zone → p.zone y = s.part.zone y) ∧
         (∀ v, a = .value v → valid v →
           (p.zone b.zone).temperature = some v.toInt ∧ (p.zone b.zone).lastSample = some .valid ∧
           (p.zone b.zone).validRun = min 3 (z.validRun + 1) ∧ (p.zone b.zone).invalidRun = 0 ∧
           (p.zone b.zone).sensorFault = (z.sensorFault && decide (z.validRun < 2))) ∧
         ((∀ v, a = .value v → ¬ valid v) →
           (p.zone b.zone).temperature = z.temperature ∧
           (p.zone b.zone).lastSample = some (if a = .noAnswer then .noAnswer else .outOfRange) ∧
           (p.zone b.zone).invalidRun = min 3 (z.invalidRun + 1) ∧ (p.zone b.zone).validRun = 0 ∧
           (p.zone b.zone).sensorFault = (z.sensorFault || decide (2 ≤ z.invalidRun)))) ∧
     (∀ (b : BusRead) (r : ZoneRequest) (tg : Int), s.part.busRead = some b →
       let z := s.part.zone b.zone
       let rack := s.part.tables.rack
       z.state = .regulating → s.part.door.value = false → z.sensorFault = false → z.alarm = .stopped →
       z.request = some r → z.target = some tg → z.rampAcc < 60 → r.ramp ≤ 40 → -40 ≤ v.toInt → v.toInt ≤ 220 →
       v.toInt < rack.hardLimit →
       let a := z.rampAcc + r.ramp
       let moves := 60 ≤ a ∧ tg ≠ r.setPoint
       let tg' := if moves then (if tg < r.setPoint then tg + 1 else tg - 1) else tg
       let e := tg' - v.toInt
       let I := max (-(rack.imax : Int)) (min rack.imax (z.integral + e))
       let u := rack.kp * e + Int.fdiv (rack.ki * I) 64
       exec (.sensorSample (.value v)) s = .next (s.put ({ s.part with
         busRead := if h : b.zone.val + 1 < 6 then
           some ⟨⟨b.zone.val + 1, h⟩, 0x48 + BitVec.ofNat 7 (b.zone.val + 1), .temperature, ⟨49, 0⟩⟩ else none }.modZone b.zone fun _ =>
           { z with
             temperature := some v.toInt
             lastSample := some .valid
             validRun := min 3 (z.validRun + 1)
             invalidRun := 0
             target := some tg'
             rampAcc := if tg' = r.setPoint then 0 else if moves then a - 60 else a
             integral := if (255 < u ∧ 0 < e) ∨ (u < 0 ∧ e < 0) then z.integral else I
             duty := (max 0 (min 255 u)).toNat
             fan := if tg' + rack.fanBand < v.toInt then 100 else rack.fanBase })))) ∧
  (∀ s : State,
     (s.part.busRead = none → exec .sensorReadTimeout s = .next s) ∧
     (∀ b, s.part.busRead = some b → b.timer.due = false → exec .sensorReadTimeout s = .next s) ∧
     (∀ b, s.part.busRead = some b → b.timer.due = true →
       exec .sensorReadTimeout s = exec (.sensorSample .noAnswer) s ∧
       (let z := s.part.zone b.zone
        z.invalidRun = 2 → z.sensorFault = false → z.alarm ≠ .expired →
        ∃ p : Part, exec .sensorReadTimeout s = .next (s.put p) ∧
         (p.zone b.zone).sensorFault = true ∧ (p.zone b.zone).invalidRun = 3 ∧ (p.zone b.zone).validRun = 0 ∧
         (p.zone b.zone).lastSample = some .noAnswer ∧ (p.zone b.zone).temperature = z.temperature ∧
         (z.state ≠ .sensorFault → (p.zone b.zone).state = .sensorFault ∧ (p.zone b.zone).duty = 0 ∧
           (p.zone b.zone).fan = 100) ∧
         p.slots = s.part.slots ∧ p.trunk.completions = s.part.trunk.completions)))

/-- ALARM_TIMER_EXPIRY (R153, R146): a running alarm timer that is due becomes expired; of the zone's four slots each in RUNNING, CONDEMNED or DRAINING is ended early with 7, OVERTEMP, and no other slot changes but for ZONE_ALARM_SEEN, which a judged zone (an invariant) does not latch. On a timer not running or not due the command has no effect (log entry 2: DESIGN CHOICE). A valid sample at the hard limit or above starts the timer and latches ZONE_ALARM_SEEN on the four slots (R152); one below it by more than 4 stops the timer, and trips nothing; any other sample of a zone with an expired timer delivers the trips again (R153). That the trips are taken within the sample's own command, and that the sample that clears the alarm delivers none, is log entry 26 (DEDUCED). -/
def Obligations.AlarmTrips : Prop :=
  (∀ (z : ZoneId) (s : State), (∀ tm, (s.part.zone z).alarm = .running tm → tm.due = false) →
    exec (.alarmTimerExpiry z) s = .next s) ∧
  (∀ (z : ZoneId) (tm : Timer) (s : State), (s.part.zone z).alarm = .running tm → tm.due = true →
    ∃ p : Part, exec (.alarmTimerExpiry z) s = .next (s.put p) ∧ (p.zone z).alarm = .expired ∧
      (∀ i : SlotId, i.val / 4 = z.val → (s.part.slot i).state ∈ [.running, .condemned, .draining] →
        EndedEarly i ⟨.aborted, 7, .overtemp⟩ s.part p) ∧
      (∀ i : SlotId, (i.val / 4 ≠ z.val ∨ (s.part.slot i).state ∉ [.running, .condemned, .draining]) →
        SlotBecomes i (s.part.slot i) s.part p)) ∧
  (∀ (b : BusRead) (v : BitVec 16) (s : State), s.part.busRead = some b → (s.part.zone b.zone).alarm ≠ .stopped →
    -40 ≤ v.toInt → v.toInt ≤ 220 → v.toInt < s.part.tables.rack.hardLimit - 4 →
    ∃ p : Part, exec (.sensorSample (.value v)) s = .next (s.put p) ∧ (p.zone b.zone).alarm = .stopped ∧
      p.slots = s.part.slots) ∧
  (∀ (b : BusRead) (a : SensorAnswer) (s : State), s.part.busRead = some b → (s.part.zone b.zone).alarm = .expired →
    (∀ v, a = .value v → -40 ≤ v.toInt → v.toInt ≤ 220 → (s.part.tables.rack.hardLimit : Int) - 4 ≤ v.toInt) →
    ∃ p : Part, exec (.sensorSample a) s = .next (s.put p) ∧ (p.zone b.zone).alarm = .expired ∧
      (∀ i : SlotId, i.val / 4 = b.zone.val → (s.part.slot i).state ∈ [.running, .condemned, .draining] →
        EndedEarly i ⟨.aborted, 7, .overtemp⟩ s.part p) ∧
      (∀ i : SlotId, (i.val / 4 ≠ b.zone.val ∨ (s.part.slot i).state ∉ [.running, .condemned, .draining]) →
        p.slot i = { s.part.slot i with sticky :=
          { (s.part.slot i).sticky with zoneAlarmSeen := (p.slot i).sticky.zoneAlarmSeen } })) ∧
  (∀ (b : BusRead) (v : BitVec 16) (s : State), s.part.busRead = some b → (s.part.zone b.zone).alarm = .stopped →
    v.toInt ≤ 220 → (s.part.tables.rack.hardLimit : Int) ≤ v.toInt →
    ∃ p : Part, exec (.sensorSample (.value v)) s = .next (s.put p) ∧
      (p.zone b.zone).alarm = .running ⟨s.part.tables.rack.tripTime, 0⟩ ∧
      (p.zone b.zone).temperature = some v.toInt ∧
      ∀ i : SlotId, i.val / 4 = b.zone.val →
        p.slot i = { s.part.slot i with sticky := { (s.part.slot i).sticky with zoneAlarmSeen := true } })

/-- A zone's request on an offer (R145): absent when none of its slots offers, else the lowest set-point offered by a slot in RUNNING, CONDEMNED or DRAINING whose step asks for one, supplied by the lowest-numbered such slot, with its ramp. -/
def Obligations.RequestIsLowestOffer : Prop :=
  ∀ (p : Part) (z : ZoneId),
    let offers (i : SlotId) (sp : Int) (ramp : Nat) : Prop :=
      i.val / 4 = z.val ∧ (p.slot i).state ∈ [.running, .condemned, .draining] ∧
      ∃ e, p.currentStep i = some e ∧ e.setPoint = sp ∧ e.ramp = ramp ∧ sp ≠ 0
    ((p.takeOffer z).zone z).request = p.formRequest z ∧
    (p.formRequest z = none ↔ ∀ i sp ramp, ¬ offers i sp ramp) ∧
    (∀ r, p.formRequest z = some r → offers r.slot r.setPoint r.ramp ∧
      ∀ i sp ramp, offers i sp ramp → r.setPoint < sp ∨ (r.setPoint = sp ∧ r.slot.val ≤ i.val))

/-! ### Scoring, grading and notices -/

/-- What a counted completion adds (R97 to R103): coverage, the three fault-kind counts, reallocations, the slow count and one latency bucket, each saturating, the histogram halved before a full bucket would pass 65535. -/
def Obligations.CountedCompletionAdds : Prop :=
  ∀ (x : Handing) (a : Accum),
    let measured := x.status = .drive .good ∨ x.status = .drive .corrected ∨ x.status = .drive .uncorrectable ∨
      x.status = .drive .driveError
    let b := bucketOf x.latency
    (a.count x).v = (if (x.status = .drive .good ∨ x.status = .drive .corrected) ∧ x.covers = true
      then min 4294967295 (a.v + x.coverage) else a.v) ∧
    (a.count x).u = (if x.status = .drive .uncorrectable then min 65535 (a.u + 1) else a.u) ∧
    (a.count x).c = (if x.status = .drive .corrected then min 65535 (a.c + 1) else a.c) ∧
    (a.count x).f = (if x.status = .drive .driveError ∨ x.status = .timeout then min 65535 (a.f + 1) else a.f) ∧
    (∀ d, x.status = .drive d → (a.count x).r = min 65535 (a.r + x.delta)) ∧
    ((∀ d, x.status ≠ .drive d) → (a.count x).r = a.r) ∧
    (a.count x).s = (if measured ∧ x.slow < x.latency then min 65535 (a.s + 1) else a.s) ∧
    (a.count x).frozen = a.frozen ∧
    (¬ measured → (a.count x).hist = a.hist) ∧
    (measured → ∀ k : Fin 8, (a.count x).hist[k] =
      (if a.hist[b] = 65535 then a.hist[k] / 2 else a.hist[k]) + (if k = b then 1 else 0)) ∧
    (b = 0 ↔ x.latency < 2) ∧ (b = 7 ↔ 128 ≤ x.latency) ∧
    (∀ k : Fin 8, 0 < k.val → k.val < 7 → (b = k ↔ 2 ^ k.val ≤ x.latency ∧ x.latency < 2 ^ (k.val + 1)))

/-- The grade computation (R111 to R116): a recorded pair stands without a density; coverage of 0 or below Vmin is 7, COVERAGE without a density; otherwise the density, the thresholds it exceeds, the tail demotion and the shortfall, held at 6, with reason NONE. -/
def Obligations.GradeIsComputed : Prop :=
  ∀ (l : LimitSet) (a : Accum) (reason : Reason) (shortfall : Nat),
    (∀ d : Fin 9, computeGrade l a (some d) reason shortfall = ⟨d, reason, none⟩) ∧
    (a.v = 0 ∨ a.v < l.vmin → computeGrade l a none reason shortfall = ⟨7, .coverage, none⟩) ∧
    (a.v ≠ 0 → l.vmin ≤ a.v →
      let D := min 65535 ((l.wu * a.u + l.wr * a.r + l.wc * a.c + l.wf * a.f + l.ws * a.s) * 1048576 / a.v)
      let ov (t : Nat) : Nat := if t < D then 1 else 0
      let base := ov l.t1 + ov l.t2 + ov l.t3 + ov l.t4 + ov l.t5 + ov l.t6
      let bucket (least : Nat) (k : Fin 8) : Nat := if least ≤ k.val then a.hist[k] else 0
      let total := (List.finRange 8).foldl (fun n k => n + bucket 0 k) 0
      let tail := (List.finRange 8).foldl (fun n k => n + bucket l.bt k) 0
      let demotion := if 0 < total ∧ total * l.p < tail * 1000 then 1 else 0
      (computeGrade l a none reason shortfall).disposition.val = min 6 (base + demotion + shortfall) ∧
      (computeGrade l a none reason shortfall).reason = .none ∧
      (computeGrade l a none reason shortfall).density = some D)

/-- Raising a notice (R191, R193): suppressed at level 0; else made with the level in force and the seconds count, and queued below 64; in a full queue it displaces the oldest notice of the lowest level below its own among those not being sent, or is discarded, and the one lost is recorded and counted. -/
def Obligations.NoticesAreQueued : Prop :=
  ∀ (b : NoticeBody) (p : Part),
    let level := p.tables.levels[b.index]
    let n : Notice := ⟨b, level, p.seconds, false⟩
    let lost (l : Nat) (notices : List Notice) : Part := { p with trunk := { p.trunk with
      notices := notices
      lostCount := min 65535 (p.trunk.lostCount + 1)
      lostHighest := some (max (p.trunk.lostHighest.getD 0) l)
      noticesLostTotal := min 4294967295 (p.trunk.noticesLostTotal + 1) } }
    (level = 0 → p.raise b = p) ∧
    (level ≠ 0 → p.trunk.notices.length < 64 →
      p.raise b = { p with trunk := { p.trunk with notices := p.trunk.notices ++ [n] } }) ∧
    (level ≠ 0 → 64 ≤ p.trunk.notices.length → (∀ x ∈ p.trunk.notices, x.sending = false → level ≤ x.level) →
      p.raise b = lost level p.trunk.notices) ∧
    (∀ before x after, level ≠ 0 → 64 ≤ p.trunk.notices.length → p.trunk.notices = before ++ x :: after →
      x.sending = false → x.level < level → (∀ y ∈ before, y.sending = false → x.level < y.level) →
      (∀ y ∈ after, y.sending = false → x.level ≤ y.level) →
      p.raise b = lost x.level (before ++ after ++ [n]))

/-! ### Frames over all commands -/

/-- What each part of the state outside the slots is changed by: the time by the tick (R47), the tables by LOAD_ENTRY and the image (R8, R199), the loader by the loader's events (R197, R199) and its count of the ticks (log entry 11), the station address by the image (R2), the link state by the link (R11), the server address and the request being served by the requests (R2, R4) and the end of a response, the door by its line (R171); POWER_ON changes them all. -/
def Obligations.SharedStateIsChangedOnlyBy : Prop :=
  ∀ (c : Instr) (s : State) (p : Part), exec c s = .next (s.put p) → (∀ a b d e, c ≠ .powerOn a b d e) →
    (c ≠ .timeBaseTick → p.seconds = s.part.seconds ∧ p.ms = s.part.ms) ∧
    (c ≠ .loadEntry → (∀ l, c ≠ .configImageLoadEnd l) → p.tables = s.part.tables) ∧
    (c ≠ .timeBaseTick → (∀ x, c ≠ .configTransferTimeout x) → (∀ l, c ≠ .configImageLoadEnd l) →
      p.loader = s.part.loader) ∧
    ((∀ l, c ≠ .configImageLoadEnd l) → p.trunk.station = s.part.trunk.station) ∧
    (c ≠ .linkUp → c ≠ .linkDown → p.trunk.linkUp = s.part.trunk.linkUp) ∧
    ((∀ r, takes c r = false) → p.trunk.server = s.part.trunk.server ∧
      (c ≠ .frameSendEnd → p.serving = s.part.serving ∧ p.trunk.response = s.part.trunk.response)) ∧
    (c ≠ .timeBaseTick → c ≠ .doorChanged → (∀ v, c ≠ .doorLineChange v) → p.door = s.part.door) ∧
    (c ≠ .timeBaseTick → c ≠ .sensorReadTimeout → (∀ a, c ≠ .sensorSample a) → p.busRead = s.part.busRead)

/-- A command at one slot (a tick, a line, a lane event, an expiry, a fault) leaves every other slot as it was, but for a slot of the spin-up queue, which may be granted; every zone but the slot's own; and the tables, the loader and the time. The zones are judged and the queues sound beforehand (invariants). -/
def Obligations.OtherSlotsAreKept : Prop :=
  ∀ (c : Instr) (i : SlotId) (s : State) (p : Part), slotOf c = some i → s.part.ZonesJudged → s.part.QueuesSound →
    exec c s = .next (s.put p) →
    (∀ k, k ≠ i → k ∉ s.part.spinQueue → p.slot k = s.part.slot k) ∧
    (∀ z, z.val ≠ i.val / 4 → p.zone z = s.part.zone z) ∧
    p.tables = s.part.tables ∧ p.loader = s.part.loader ∧ p.seconds = s.part.seconds ∧ p.ms = s.part.ms ∧
    p.door = s.part.door ∧ p.busRead = s.part.busRead ∧ p.serving = s.part.serving ∧
    p.trunk.requests = s.part.trunk.requests ∧ p.trunk.response = s.part.trunk.response ∧
    p.trunk.linkUp = s.part.trunk.linkUp ∧ p.trunk.tx = s.part.trunk.tx

/-! ### Invariants that every step keeps -/

/-- The request queue holds at most 8 requests (R4), the notice queue at most 64 notices (R193), the run count is at most 8 (R11), the millisecond count is below 1000 (R47), and the part counters (R16, R193, R196), the slot counters (R90), the test seconds (R18) and the accumulators (R91, R103) keep their ranges: every step keeps it. Each outstanding list holds at most 8 entries with distinct tags and is empty outside IDENT, RUNNING, CONDEMNED and DRAINING (R73), the lane is OPEN outside the last three (R86), and the upstream completion queue holds at most 64 refusal completions and at most 256 completions (R13): with what ties the queued completions to the DONE entries, every step keeps it where the queues are sound (an invariant). -/
def Obligations.StepKeepsBounded : Prop :=
  (∀ s s' : State, s.part.Bounded → step s = .next s' → s'.part.Bounded) ∧
  (∀ s s' : State, s.part.QueuesSound → s.part.ListsSound → step s = .next s' → s'.part.ListsSound)

/-- Each slot's lamp is that of its state (R40), and its power enable line is on exactly in the powered states (R126): every step keeps it. -/
def Obligations.StepKeepsDressed : Prop :=
  ∀ s s' : State, s.part.Dressed → step s = .next s' → s'.part.Dressed

/-- Each zone is in the state that is the first row of Table 8-3 whose condition holds (R146): every step keeps it. -/
def Obligations.StepKeepsZonesJudged : Prop :=
  ∀ s s' : State, s.part.ZonesJudged → step s = .next s' → s'.part.ZonesJudged

/-- The spin-up queue holds exactly the slots in POWER_WAIT, once each (R128), the spin-up count is the number of slots in SPINUP, and each wait queue holds exactly the slots in TOTE_WAIT of its tote, once each (R181): every step keeps it. -/
def Obligations.StepKeepsQueuesSound : Prop :=
  ∀ s s' : State, s.part.QueuesSound → step s = .next s' → s'.part.QueuesSound

/-- No slot waits for a grant that could be made (R129, R130): every step keeps it, so the occasions of R130 are all there are. -/
def Obligations.StepKeepsNoGrantWaits : Prop :=
  ∀ s s' : State, s.part.NoGrantWaits → step s = .next s' → s'.part.NoGrantWaits

/-- Every entry of the Table Store is in its stored range, and valid filter codes are distinct (R50, R51, R67, R68, R108, R192, Table 8-4, Table 11-2), a capacity being at least 1 (R175): every step keeps it. With it, every step keeps the totes sound: a capacity is at most 60 (R175), a fill is at most its capacity, an ABSENT tote is empty, an OPEN one below its capacity with no slot waiting, a FULL one at it, and the positions of a manifest are 1 to the fill, in order (R177). -/
def Obligations.StepKeepsTablesInRange : Prop :=
  (∀ s s' : State, s.part.tables.InRange → step s = .next s' → s'.part.tables.InRange) ∧
  (∀ s s' : State, s.part.tables.InRange → s.part.TotesSound → step s = .next s' → s'.part.TotesSound)

/-- The invariants hold after reset; State.reset is what POWER_ON leaves with no strap set and every raw line at its debounced level (log entry 7: DESIGN CHOICE). -/
def Obligations.InvariantsHoldAtReset : Prop :=
  State.reset.part.Bounded ∧ State.reset.part.Dressed ∧ State.reset.part.ZonesJudged ∧ State.reset.part.QueuesSound ∧
  State.reset.part.NoGrantWaits ∧ State.reset.part.tables.InRange ∧ State.reset.part.ListsSound ∧
  State.reset.part.TotesSound ∧
  exec (.powerOn 0 0 0 true) State.reset = .next State.reset
end

