-- ==== Sys2Proof/Laws/Bytes.lean ====
section
/-! SUPPORT. Byte order (R201): what is read from the bytes of a field is the field's value; fields of joined byte lists. -/

namespace Sys2Proof

@[simp] theorem beVal_nil : beVal [] = 0 := rfl

theorem beVal_foldl (l : List Byte) (a : Nat) :
    l.foldl (fun a b => a * 256 + b.toNat) a = a * 256 ^ l.length + beVal l := by
  induction l generalizing a with
  | nil => simp [beVal]
  | cons b l ih =>
    simp only [beVal, List.foldl_cons, List.length_cons]
    rw [ih, ih (0 * 256 + b.toNat)]
    ring

/-- The value of a list of bytes, its first byte the most significant. -/
theorem beVal_cons (b : Byte) (l : List Byte) : beVal (b :: l) = b.toNat * 256 ^ l.length + beVal l := by
  have h := beVal_foldl l (0 * 256 + b.toNat)
  simpa [beVal] using h

@[simp] theorem beBytes_length (n v : Nat) : (beBytes n v).length = n := by
  induction n with
  | zero => rfl
  | succ n ih => simp [beBytes, ih]

/-- The bytes of a field say its value modulo the size of the field. -/
theorem beVal_beBytes_mod (n v : Nat) : beVal (beBytes n v) = v % 256 ^ n := by
  induction n with
  | zero => simp [beBytes, beVal, Nat.mod_one]
  | succ n ih =>
    rw [beBytes, beVal_cons, beBytes_length, ih, BitVec.toNat_ofNat]
    have h2 : (2 : Nat) ^ 8 = 256 := rfl
    rw [h2, pow_succ, Nat.mod_mul, Nat.add_comm, Nat.mul_comm]

/-- The bytes of a field say its value. -/
@[simp] theorem beVal_beBytes (n v : Nat) (h : v < 256 ^ n) : beVal (beBytes n v) = v := by
  rw [beVal_beBytes_mod, Nat.mod_eq_of_lt h]

@[simp] theorem beBytes_zero (v : Nat) : beBytes 0 v = [] := rfl
@[simp] theorem beBytes_one (v : Nat) : beBytes 1 v = [BitVec.ofNat 8 v] := by simp [beBytes]
theorem beBytes_two (v : Nat) : beBytes 2 v = [BitVec.ofNat 8 (v / 256), BitVec.ofNat 8 v] := by simp [beBytes]
theorem beVal_two (a b : Byte) : beVal [a, b] = a.toNat * 256 + b.toNat := by simp [beVal]

/-- A field that begins where the front ends is the field at the same distance into the rest. -/
theorem field_append (a b : List Byte) (off len : Nat) (h : a.length ≤ off) :
    field (a ++ b) off len = field b (off - a.length) len := by
  simp [field, List.drop_append, List.drop_eq_nil_of_le h]

/-- A field that ends within the front is the front's field. -/
theorem field_append_left (a b : List Byte) (off len : Nat) (h : off + len ≤ a.length) :
    field (a ++ b) off len = field a off len := by
  unfold field
  rw [List.drop_append_of_le_length (by omega), List.take_append_of_le_length (by simp; omega)]

/-- A field at the front of its bytes. -/
theorem field_beBytes (n v : Nat) (rest : List Byte) (h : v < 256 ^ n) : field (beBytes n v ++ rest) 0 n = v := by
  unfold field
  rw [List.drop_zero, List.take_append_of_le_length (by simp)]
  simp [List.take_of_length_le, h]

end Sys2Proof
end

