-- ==== Sys2Proof/Laws/State.lean ====
section
/-! SUPPORT. What each update of State leaves as it was, field by field, and what it makes of the field it changes. -/

namespace Sys2Proof.Machine

/-! ### The queue and the part -/

@[simp] theorem State.onPart_eq (s : State) (f : Part → Part) : s.onPart f = .next { s with part := f s.part } := rfl

/-! ### Field by field -/

@[simp] theorem Part.modSlot_loader (i : SlotId) (f : Slot → Slot) (p : Part) : (p.modSlot i f).loader = p.loader := rfl
@[simp] theorem Part.modSlot_busRead (i : SlotId) (f : Slot → Slot) (p : Part) : (p.modSlot i f).busRead = p.busRead := rfl
@[simp] theorem Part.modSlot_trunk (i : SlotId) (f : Slot → Slot) (p : Part) : (p.modSlot i f).trunk = p.trunk := rfl
@[simp] theorem Part.modSlot_serving (i : SlotId) (f : Slot → Slot) (p : Part) : (p.modSlot i f).serving = p.serving := rfl
@[simp] theorem Part.modSlot_tables (i : SlotId) (f : Slot → Slot) (p : Part) : (p.modSlot i f).tables = p.tables := rfl
@[simp] theorem Part.modSlot_spinQueue (i : SlotId) (f : Slot → Slot) (p : Part) : (p.modSlot i f).spinQueue = p.spinQueue := rfl
@[simp] theorem Part.modSlot_spinCount (i : SlotId) (f : Slot → Slot) (p : Part) : (p.modSlot i f).spinCount = p.spinCount := rfl
@[simp] theorem Part.modSlot_zones (i : SlotId) (f : Slot → Slot) (p : Part) : (p.modSlot i f).zones = p.zones := rfl
@[simp] theorem Part.modSlot_totes (i : SlotId) (f : Slot → Slot) (p : Part) : (p.modSlot i f).totes = p.totes := rfl
@[simp] theorem Part.modSlot_seconds (i : SlotId) (f : Slot → Slot) (p : Part) : (p.modSlot i f).seconds = p.seconds := rfl
@[simp] theorem Part.modSlot_ms (i : SlotId) (f : Slot → Slot) (p : Part) : (p.modSlot i f).ms = p.ms := rfl
@[simp] theorem Part.modSlot_door (i : SlotId) (f : Slot → Slot) (p : Part) : (p.modSlot i f).door = p.door := rfl
@[simp] theorem Part.modSlot_order (i : SlotId) (f : Slot → Slot) (p : Part) : (p.modSlot i f).order = p.order := rfl
@[simp] theorem Part.modSlot_fresh (i : SlotId) (f : Slot → Slot) (p : Part) : (p.modSlot i f).fresh = p.fresh := rfl
@[simp] theorem Part.modSlot_zone (i : SlotId) (f : Slot → Slot) (p : Part) (k : ZoneId) : (p.modSlot i f).zone k = p.zone k := rfl
@[simp] theorem Part.modSlot_tote (i : SlotId) (f : Slot → Slot) (p : Part) (k : ToteId) : (p.modSlot i f).tote k = p.tote k := rfl

@[simp] theorem Part.modAllSlots_loader (f : Slot → Slot) (p : Part) : (p.modAllSlots f).loader = p.loader := rfl
@[simp] theorem Part.modAllSlots_busRead (f : Slot → Slot) (p : Part) : (p.modAllSlots f).busRead = p.busRead := rfl
@[simp] theorem Part.modAllSlots_trunk (f : Slot → Slot) (p : Part) : (p.modAllSlots f).trunk = p.trunk := rfl
@[simp] theorem Part.modAllSlots_serving (f : Slot → Slot) (p : Part) : (p.modAllSlots f).serving = p.serving := rfl
@[simp] theorem Part.modAllSlots_tables (f : Slot → Slot) (p : Part) : (p.modAllSlots f).tables = p.tables := rfl
@[simp] theorem Part.modAllSlots_spinQueue (f : Slot → Slot) (p : Part) : (p.modAllSlots f).spinQueue = p.spinQueue := rfl
@[simp] theorem Part.modAllSlots_spinCount (f : Slot → Slot) (p : Part) : (p.modAllSlots f).spinCount = p.spinCount := rfl
@[simp] theorem Part.modAllSlots_zones (f : Slot → Slot) (p : Part) : (p.modAllSlots f).zones = p.zones := rfl
@[simp] theorem Part.modAllSlots_totes (f : Slot → Slot) (p : Part) : (p.modAllSlots f).totes = p.totes := rfl
@[simp] theorem Part.modAllSlots_seconds (f : Slot → Slot) (p : Part) : (p.modAllSlots f).seconds = p.seconds := rfl
@[simp] theorem Part.modAllSlots_ms (f : Slot → Slot) (p : Part) : (p.modAllSlots f).ms = p.ms := rfl
@[simp] theorem Part.modAllSlots_door (f : Slot → Slot) (p : Part) : (p.modAllSlots f).door = p.door := rfl
@[simp] theorem Part.modAllSlots_order (f : Slot → Slot) (p : Part) : (p.modAllSlots f).order = p.order := rfl
@[simp] theorem Part.modAllSlots_fresh (f : Slot → Slot) (p : Part) : (p.modAllSlots f).fresh = p.fresh := rfl
@[simp] theorem Part.modAllSlots_zone (f : Slot → Slot) (p : Part) (k : ZoneId) : (p.modAllSlots f).zone k = p.zone k := rfl
@[simp] theorem Part.modAllSlots_tote (f : Slot → Slot) (p : Part) (k : ToteId) : (p.modAllSlots f).tote k = p.tote k := rfl

@[simp] theorem Part.modZone_loader (z : ZoneId) (f : Zone → Zone) (p : Part) : (p.modZone z f).loader = p.loader := rfl
@[simp] theorem Part.modZone_busRead (z : ZoneId) (f : Zone → Zone) (p : Part) : (p.modZone z f).busRead = p.busRead := rfl
@[simp] theorem Part.modZone_trunk (z : ZoneId) (f : Zone → Zone) (p : Part) : (p.modZone z f).trunk = p.trunk := rfl
@[simp] theorem Part.modZone_serving (z : ZoneId) (f : Zone → Zone) (p : Part) : (p.modZone z f).serving = p.serving := rfl
@[simp] theorem Part.modZone_tables (z : ZoneId) (f : Zone → Zone) (p : Part) : (p.modZone z f).tables = p.tables := rfl
@[simp] theorem Part.modZone_slots (z : ZoneId) (f : Zone → Zone) (p : Part) : (p.modZone z f).slots = p.slots := rfl
@[simp] theorem Part.modZone_spinQueue (z : ZoneId) (f : Zone → Zone) (p : Part) : (p.modZone z f).spinQueue = p.spinQueue := rfl
@[simp] theorem Part.modZone_spinCount (z : ZoneId) (f : Zone → Zone) (p : Part) : (p.modZone z f).spinCount = p.spinCount := rfl
@[simp] theorem Part.modZone_totes (z : ZoneId) (f : Zone → Zone) (p : Part) : (p.modZone z f).totes = p.totes := rfl
@[simp] theorem Part.modZone_seconds (z : ZoneId) (f : Zone → Zone) (p : Part) : (p.modZone z f).seconds = p.seconds := rfl
@[simp] theorem Part.modZone_ms (z : ZoneId) (f : Zone → Zone) (p : Part) : (p.modZone z f).ms = p.ms := rfl
@[simp] theorem Part.modZone_door (z : ZoneId) (f : Zone → Zone) (p : Part) : (p.modZone z f).door = p.door := rfl
@[simp] theorem Part.modZone_order (z : ZoneId) (f : Zone → Zone) (p : Part) : (p.modZone z f).order = p.order := rfl
@[simp] theorem Part.modZone_fresh (z : ZoneId) (f : Zone → Zone) (p : Part) : (p.modZone z f).fresh = p.fresh := rfl
@[simp] theorem Part.modZone_slot (z : ZoneId) (f : Zone → Zone) (p : Part) (k : SlotId) : (p.modZone z f).slot k = p.slot k := rfl
@[simp] theorem Part.modZone_tote (z : ZoneId) (f : Zone → Zone) (p : Part) (k : ToteId) : (p.modZone z f).tote k = p.tote k := rfl

@[simp] theorem Part.modTote_loader (t : ToteId) (f : Tote → Tote) (p : Part) : (p.modTote t f).loader = p.loader := rfl
@[simp] theorem Part.modTote_busRead (t : ToteId) (f : Tote → Tote) (p : Part) : (p.modTote t f).busRead = p.busRead := rfl
@[simp] theorem Part.modTote_trunk (t : ToteId) (f : Tote → Tote) (p : Part) : (p.modTote t f).trunk = p.trunk := rfl
@[simp] theorem Part.modTote_serving (t : ToteId) (f : Tote → Tote) (p : Part) : (p.modTote t f).serving = p.serving := rfl
@[simp] theorem Part.modTote_tables (t : ToteId) (f : Tote → Tote) (p : Part) : (p.modTote t f).tables = p.tables := rfl
@[simp] theorem Part.modTote_slots (t : ToteId) (f : Tote → Tote) (p : Part) : (p.modTote t f).slots = p.slots := rfl
@[simp] theorem Part.modTote_spinQueue (t : ToteId) (f : Tote → Tote) (p : Part) : (p.modTote t f).spinQueue = p.spinQueue := rfl
@[simp] theorem Part.modTote_spinCount (t : ToteId) (f : Tote → Tote) (p : Part) : (p.modTote t f).spinCount = p.spinCount := rfl
@[simp] theorem Part.modTote_zones (t : ToteId) (f : Tote → Tote) (p : Part) : (p.modTote t f).zones = p.zones := rfl
@[simp] theorem Part.modTote_seconds (t : ToteId) (f : Tote → Tote) (p : Part) : (p.modTote t f).seconds = p.seconds := rfl
@[simp] theorem Part.modTote_ms (t : ToteId) (f : Tote → Tote) (p : Part) : (p.modTote t f).ms = p.ms := rfl
@[simp] theorem Part.modTote_door (t : ToteId) (f : Tote → Tote) (p : Part) : (p.modTote t f).door = p.door := rfl
@[simp] theorem Part.modTote_order (t : ToteId) (f : Tote → Tote) (p : Part) : (p.modTote t f).order = p.order := rfl
@[simp] theorem Part.modTote_fresh (t : ToteId) (f : Tote → Tote) (p : Part) : (p.modTote t f).fresh = p.fresh := rfl
@[simp] theorem Part.modTote_slot (t : ToteId) (f : Tote → Tote) (p : Part) (k : SlotId) : (p.modTote t f).slot k = p.slot k := rfl
@[simp] theorem Part.modTote_zone (t : ToteId) (f : Tote → Tote) (p : Part) (k : ZoneId) : (p.modTote t f).zone k = p.zone k := rfl

@[simp] theorem Part.modTrunk_loader (f : TrunkPort → TrunkPort) (p : Part) : (p.modTrunk f).loader = p.loader := rfl
@[simp] theorem Part.modTrunk_busRead (f : TrunkPort → TrunkPort) (p : Part) : (p.modTrunk f).busRead = p.busRead := rfl
@[simp] theorem Part.modTrunk_serving (f : TrunkPort → TrunkPort) (p : Part) : (p.modTrunk f).serving = p.serving := rfl
@[simp] theorem Part.modTrunk_tables (f : TrunkPort → TrunkPort) (p : Part) : (p.modTrunk f).tables = p.tables := rfl
@[simp] theorem Part.modTrunk_slots (f : TrunkPort → TrunkPort) (p : Part) : (p.modTrunk f).slots = p.slots := rfl
@[simp] theorem Part.modTrunk_spinQueue (f : TrunkPort → TrunkPort) (p : Part) : (p.modTrunk f).spinQueue = p.spinQueue := rfl
@[simp] theorem Part.modTrunk_spinCount (f : TrunkPort → TrunkPort) (p : Part) : (p.modTrunk f).spinCount = p.spinCount := rfl
@[simp] theorem Part.modTrunk_zones (f : TrunkPort → TrunkPort) (p : Part) : (p.modTrunk f).zones = p.zones := rfl
@[simp] theorem Part.modTrunk_totes (f : TrunkPort → TrunkPort) (p : Part) : (p.modTrunk f).totes = p.totes := rfl
@[simp] theorem Part.modTrunk_seconds (f : TrunkPort → TrunkPort) (p : Part) : (p.modTrunk f).seconds = p.seconds := rfl
@[simp] theorem Part.modTrunk_ms (f : TrunkPort → TrunkPort) (p : Part) : (p.modTrunk f).ms = p.ms := rfl
@[simp] theorem Part.modTrunk_door (f : TrunkPort → TrunkPort) (p : Part) : (p.modTrunk f).door = p.door := rfl
@[simp] theorem Part.modTrunk_order (f : TrunkPort → TrunkPort) (p : Part) : (p.modTrunk f).order = p.order := rfl
@[simp] theorem Part.modTrunk_fresh (f : TrunkPort → TrunkPort) (p : Part) : (p.modTrunk f).fresh = p.fresh := rfl
@[simp] theorem Part.modTrunk_slot (f : TrunkPort → TrunkPort) (p : Part) (k : SlotId) : (p.modTrunk f).slot k = p.slot k := rfl
@[simp] theorem Part.modTrunk_zone (f : TrunkPort → TrunkPort) (p : Part) (k : ZoneId) : (p.modTrunk f).zone k = p.zone k := rfl
@[simp] theorem Part.modTrunk_tote (f : TrunkPort → TrunkPort) (p : Part) (k : ToteId) : (p.modTrunk f).tote k = p.tote k := rfl

@[simp] theorem Part.modTables_loader (f : TableStore → TableStore) (p : Part) : (p.modTables f).loader = p.loader := rfl
@[simp] theorem Part.modTables_busRead (f : TableStore → TableStore) (p : Part) : (p.modTables f).busRead = p.busRead := rfl
@[simp] theorem Part.modTables_trunk (f : TableStore → TableStore) (p : Part) : (p.modTables f).trunk = p.trunk := rfl
@[simp] theorem Part.modTables_serving (f : TableStore → TableStore) (p : Part) : (p.modTables f).serving = p.serving := rfl
@[simp] theorem Part.modTables_slots (f : TableStore → TableStore) (p : Part) : (p.modTables f).slots = p.slots := rfl
@[simp] theorem Part.modTables_spinQueue (f : TableStore → TableStore) (p : Part) : (p.modTables f).spinQueue = p.spinQueue := rfl
@[simp] theorem Part.modTables_spinCount (f : TableStore → TableStore) (p : Part) : (p.modTables f).spinCount = p.spinCount := rfl
@[simp] theorem Part.modTables_zones (f : TableStore → TableStore) (p : Part) : (p.modTables f).zones = p.zones := rfl
@[simp] theorem Part.modTables_totes (f : TableStore → TableStore) (p : Part) : (p.modTables f).totes = p.totes := rfl
@[simp] theorem Part.modTables_seconds (f : TableStore → TableStore) (p : Part) : (p.modTables f).seconds = p.seconds := rfl
@[simp] theorem Part.modTables_ms (f : TableStore → TableStore) (p : Part) : (p.modTables f).ms = p.ms := rfl
@[simp] theorem Part.modTables_door (f : TableStore → TableStore) (p : Part) : (p.modTables f).door = p.door := rfl
@[simp] theorem Part.modTables_order (f : TableStore → TableStore) (p : Part) : (p.modTables f).order = p.order := rfl
@[simp] theorem Part.modTables_fresh (f : TableStore → TableStore) (p : Part) : (p.modTables f).fresh = p.fresh := rfl
@[simp] theorem Part.modTables_slot (f : TableStore → TableStore) (p : Part) (k : SlotId) : (p.modTables f).slot k = p.slot k := rfl
@[simp] theorem Part.modTables_zone (f : TableStore → TableStore) (p : Part) (k : ZoneId) : (p.modTables f).zone k = p.zone k := rfl
@[simp] theorem Part.modTables_tote (f : TableStore → TableStore) (p : Part) (k : ToteId) : (p.modTables f).tote k = p.tote k := rfl

@[simp] theorem Part.joinQueue_loader (i : SlotId) (p : Part) : (p.joinQueue i).loader = p.loader := rfl
@[simp] theorem Part.joinQueue_busRead (i : SlotId) (p : Part) : (p.joinQueue i).busRead = p.busRead := rfl
@[simp] theorem Part.joinQueue_trunk (i : SlotId) (p : Part) : (p.joinQueue i).trunk = p.trunk := rfl
@[simp] theorem Part.joinQueue_serving (i : SlotId) (p : Part) : (p.joinQueue i).serving = p.serving := rfl
@[simp] theorem Part.joinQueue_tables (i : SlotId) (p : Part) : (p.joinQueue i).tables = p.tables := rfl
@[simp] theorem Part.joinQueue_slots (i : SlotId) (p : Part) : (p.joinQueue i).slots = p.slots := rfl
@[simp] theorem Part.joinQueue_spinCount (i : SlotId) (p : Part) : (p.joinQueue i).spinCount = p.spinCount := rfl
@[simp] theorem Part.joinQueue_zones (i : SlotId) (p : Part) : (p.joinQueue i).zones = p.zones := rfl
@[simp] theorem Part.joinQueue_totes (i : SlotId) (p : Part) : (p.joinQueue i).totes = p.totes := rfl
@[simp] theorem Part.joinQueue_seconds (i : SlotId) (p : Part) : (p.joinQueue i).seconds = p.seconds := rfl
@[simp] theorem Part.joinQueue_ms (i : SlotId) (p : Part) : (p.joinQueue i).ms = p.ms := rfl
@[simp] theorem Part.joinQueue_door (i : SlotId) (p : Part) : (p.joinQueue i).door = p.door := rfl
@[simp] theorem Part.joinQueue_order (i : SlotId) (p : Part) : (p.joinQueue i).order = p.order := rfl
@[simp] theorem Part.joinQueue_fresh (i : SlotId) (p : Part) : (p.joinQueue i).fresh = p.fresh := rfl
@[simp] theorem Part.joinQueue_slot (i : SlotId) (p : Part) (k : SlotId) : (p.joinQueue i).slot k = p.slot k := rfl
@[simp] theorem Part.joinQueue_zone (i : SlotId) (p : Part) (k : ZoneId) : (p.joinQueue i).zone k = p.zone k := rfl
@[simp] theorem Part.joinQueue_tote (i : SlotId) (p : Part) (k : ToteId) : (p.joinQueue i).tote k = p.tote k := rfl

@[simp] theorem Part.leaveQueue_loader (i : SlotId) (p : Part) : (p.leaveQueue i).loader = p.loader := rfl
@[simp] theorem Part.leaveQueue_busRead (i : SlotId) (p : Part) : (p.leaveQueue i).busRead = p.busRead := rfl
@[simp] theorem Part.leaveQueue_trunk (i : SlotId) (p : Part) : (p.leaveQueue i).trunk = p.trunk := rfl
@[simp] theorem Part.leaveQueue_serving (i : SlotId) (p : Part) : (p.leaveQueue i).serving = p.serving := rfl
@[simp] theorem Part.leaveQueue_tables (i : SlotId) (p : Part) : (p.leaveQueue i).tables = p.tables := rfl
@[simp] theorem Part.leaveQueue_slots (i : SlotId) (p : Part) : (p.leaveQueue i).slots = p.slots := rfl
@[simp] theorem Part.leaveQueue_spinCount (i : SlotId) (p : Part) : (p.leaveQueue i).spinCount = p.spinCount := rfl
@[simp] theorem Part.leaveQueue_zones (i : SlotId) (p : Part) : (p.leaveQueue i).zones = p.zones := rfl
@[simp] theorem Part.leaveQueue_totes (i : SlotId) (p : Part) : (p.leaveQueue i).totes = p.totes := rfl
@[simp] theorem Part.leaveQueue_seconds (i : SlotId) (p : Part) : (p.leaveQueue i).seconds = p.seconds := rfl
@[simp] theorem Part.leaveQueue_ms (i : SlotId) (p : Part) : (p.leaveQueue i).ms = p.ms := rfl
@[simp] theorem Part.leaveQueue_door (i : SlotId) (p : Part) : (p.leaveQueue i).door = p.door := rfl
@[simp] theorem Part.leaveQueue_order (i : SlotId) (p : Part) : (p.leaveQueue i).order = p.order := rfl
@[simp] theorem Part.leaveQueue_fresh (i : SlotId) (p : Part) : (p.leaveQueue i).fresh = p.fresh := rfl
@[simp] theorem Part.leaveQueue_slot (i : SlotId) (p : Part) (k : SlotId) : (p.leaveQueue i).slot k = p.slot k := rfl
@[simp] theorem Part.leaveQueue_zone (i : SlotId) (p : Part) (k : ZoneId) : (p.leaveQueue i).zone k = p.zone k := rfl
@[simp] theorem Part.leaveQueue_tote (i : SlotId) (p : Part) (k : ToteId) : (p.leaveQueue i).tote k = p.tote k := rfl

@[simp] theorem Part.modTrunk_trunk (f : TrunkPort → TrunkPort) (p : Part) : (p.modTrunk f).trunk = f p.trunk := rfl
@[simp] theorem Part.modTables_tables (f : TableStore → TableStore) (p : Part) : (p.modTables f).tables = f p.tables := rfl
@[simp] theorem Part.joinQueue_spinQueue (i : SlotId) (p : Part) : (p.joinQueue i).spinQueue = p.spinQueue ++ [i] := rfl
@[simp] theorem Part.leaveQueue_spinQueue (i : SlotId) (p : Part) :
    (p.leaveQueue i).spinQueue = p.spinQueue.filter (· != i) := rfl

/-! ### The record that is changed, and the others -/

theorem Part.modSlot_slot (i k : SlotId) (f : Slot → Slot) (p : Part) :
    (p.modSlot i f).slot k = if i = k then f (p.slot i) else p.slot k := by
  simp [Part.modSlot, Part.slot, Vector.getElem_set, Fin.ext_iff]

@[simp] theorem Part.modSlot_slot_self (i : SlotId) (f : Slot → Slot) (p : Part) :
    (p.modSlot i f).slot i = f (p.slot i) := by simp [Part.modSlot_slot]

theorem Part.modSlot_slot_ne {i k : SlotId} (h : i ≠ k) (f : Slot → Slot) (p : Part) :
    (p.modSlot i f).slot k = p.slot k := by simp [Part.modSlot_slot, h]

theorem Part.modZone_zone (z k : ZoneId) (f : Zone → Zone) (p : Part) :
    (p.modZone z f).zone k = if z = k then f (p.zone z) else p.zone k := by
  simp [Part.modZone, Part.zone, Vector.getElem_set, Fin.ext_iff]

@[simp] theorem Part.modZone_zone_self (z : ZoneId) (f : Zone → Zone) (p : Part) :
    (p.modZone z f).zone z = f (p.zone z) := by simp [Part.modZone_zone]

theorem Part.modZone_zone_ne {z k : ZoneId} (h : z ≠ k) (f : Zone → Zone) (p : Part) :
    (p.modZone z f).zone k = p.zone k := by simp [Part.modZone_zone, h]

theorem Part.modTote_tote (t k : ToteId) (f : Tote → Tote) (p : Part) :
    (p.modTote t f).tote k = if t = k then f (p.tote t) else p.tote k := by
  simp [Part.modTote, Part.tote, Vector.getElem_set, Fin.ext_iff]

@[simp] theorem Part.modTote_tote_self (t : ToteId) (f : Tote → Tote) (p : Part) :
    (p.modTote t f).tote t = f (p.tote t) := by simp [Part.modTote_tote]

theorem Part.modTote_tote_ne {t k : ToteId} (h : t ≠ k) (f : Tote → Tote) (p : Part) :
    (p.modTote t f).tote k = p.tote k := by simp [Part.modTote_tote, h]

@[simp] theorem mapV_get {α β : Type} {n : Nat} (f : α → β) (v : Vector α n) (k : Nat) (h : k < n) : (mapV f v)[k] = f v[k] := by
  simp [mapV]

@[simp] theorem Part.modAllSlots_slot (f : Slot → Slot) (p : Part) (k : SlotId) :
    (p.modAllSlots f).slot k = f (p.slot k) := by
  simp [Part.modAllSlots, Part.slot]

/-! ### Conditions and lists -/

@[simp] theorem Part.when_true (f : Part → Part) (p : Part) : p.when true f = f p := rfl
@[simp] theorem Part.when_false (f : Part → Part) (p : Part) : p.when false f = p := rfl

/-- What a conditional effect keeps: all that the effect keeps. -/
theorem Part.when_keeps {α : Type} {v : Part → α} {f : Part → Part} (c : Bool) (p : Part) (h : v (f p) = v p) :
    v (p.when c f) = v p := by
  cases c <;> simp [h]

/-- What an effect done for each item of a list keeps: all that one of them keeps. -/
theorem Part.each_keeps {α β : Type} {v : Part → α} {f : β → Part → Part} (h : ∀ b q, v (f b q) = v q) (l : List β)
    (p : Part) : v (p.each l f) = v p := by
  unfold Part.each
  induction l generalizing p with
  | nil => rfl
  | cons b l ih => simp [ih, h]

/-- A property that one item's effect keeps is kept by the effect done for each item of a list. -/
theorem Part.each_inv {β : Type} {P : Part → Prop} {f : β → Part → Part} (h : ∀ b q, P q → P (f b q)) (l : List β)
    (p : Part) (hp : P p) : P (p.each l f) := by
  unfold Part.each
  induction l generalizing p with
  | nil => exact hp
  | cons b l ih => exact ih _ (h _ _ hp)

/-- The free order keeps what one item's effect keeps, if that does not see the digits of the order. -/
theorem Part.eachFree_keeps {α : Type} {v : Part → α} {f : SlotId → Part → Part} (h : ∀ i q, v (f i q) = v q)
    (ho : ∀ (q : Part) (n : Nat), v { q with order := n } = v q) (l : List SlotId) (p : Part) :
    v (p.eachFree l f) = v p := by
  unfold Part.eachFree
  rw [Part.each_keeps h, ho]

/-- The same for a property. -/
theorem Part.eachFree_inv {P : Part → Prop} {f : SlotId → Part → Part} (h : ∀ i q, P q → P (f i q))
    (ho : ∀ (q : Part) (n : Nat), P q → P { q with order := n }) (l : List SlotId) (p : Part) (hp : P p) :
    P (p.eachFree l f) :=
  Part.each_inv h _ _ (ho _ _ hp)

/-! ### Raising a notice -/

@[simp] theorem Part.raise_loader (b : NoticeBody) (p : Part) : (p.raise b).loader = p.loader := by unfold Part.raise; split <;> rfl
@[simp] theorem Part.raise_busRead (b : NoticeBody) (p : Part) : (p.raise b).busRead = p.busRead := by unfold Part.raise; split <;> rfl
@[simp] theorem Part.raise_serving (b : NoticeBody) (p : Part) : (p.raise b).serving = p.serving := by unfold Part.raise; split <;> rfl
@[simp] theorem Part.raise_tables (b : NoticeBody) (p : Part) : (p.raise b).tables = p.tables := by unfold Part.raise; split <;> rfl
@[simp] theorem Part.raise_slots (b : NoticeBody) (p : Part) : (p.raise b).slots = p.slots := by unfold Part.raise; split <;> rfl
@[simp] theorem Part.raise_spinQueue (b : NoticeBody) (p : Part) : (p.raise b).spinQueue = p.spinQueue := by unfold Part.raise; split <;> rfl
@[simp] theorem Part.raise_spinCount (b : NoticeBody) (p : Part) : (p.raise b).spinCount = p.spinCount := by unfold Part.raise; split <;> rfl
@[simp] theorem Part.raise_zones (b : NoticeBody) (p : Part) : (p.raise b).zones = p.zones := by unfold Part.raise; split <;> rfl
@[simp] theorem Part.raise_totes (b : NoticeBody) (p : Part) : (p.raise b).totes = p.totes := by unfold Part.raise; split <;> rfl
@[simp] theorem Part.raise_seconds (b : NoticeBody) (p : Part) : (p.raise b).seconds = p.seconds := by unfold Part.raise; split <;> rfl
@[simp] theorem Part.raise_ms (b : NoticeBody) (p : Part) : (p.raise b).ms = p.ms := by unfold Part.raise; split <;> rfl
@[simp] theorem Part.raise_door (b : NoticeBody) (p : Part) : (p.raise b).door = p.door := by unfold Part.raise; split <;> rfl
@[simp] theorem Part.raise_order (b : NoticeBody) (p : Part) : (p.raise b).order = p.order := by unfold Part.raise; split <;> rfl
@[simp] theorem Part.raise_fresh (b : NoticeBody) (p : Part) : (p.raise b).fresh = p.fresh := by unfold Part.raise; split <;> rfl
@[simp] theorem Part.raise_slot (b : NoticeBody) (p : Part) (k : SlotId) : (p.raise b).slot k = p.slot k := by simp [Part.slot]
@[simp] theorem Part.raise_zone (b : NoticeBody) (p : Part) (k : ZoneId) : (p.raise b).zone k = p.zone k := by simp [Part.zone]
@[simp] theorem Part.raise_tote (b : NoticeBody) (p : Part) (k : ToteId) : (p.raise b).tote k = p.tote k := by simp [Part.tote]

end Sys2Proof.Machine
end

