-- ==== Sys2Proof/Laws/Quiet.lean ====
section
/-! SUPPORT. What the slot life cycle, the zones and the totes never touch, as one bundle (`Part.quiet`), with one lemma per operation: it keeps the bundle. A statement that some field stays as it was follows by projecting from the bundle. -/

namespace Sys2Proof.Machine

/-- The fields that no operation on slots, zones or totes touches. -/
structure Quiet where
  loader : Loader
  busRead : Option BusRead
  serving : Option Request
  tables : TableStore
  seconds : BitVec 32
  ms : Nat
  door : Debounce
  station : Mac
  server : Mac
  requests : List Request
  response : Option Response
  linkUp : Bool
  runCount : Nat
  tx : TrunkTx
  lastFrame : Option FrameEnd
  badFrames : Nat
  badMessages : Nat
  requestsDropped : Nat
  entriesSkipped : Nat

/-- The bundle of a part. -/
def Part.quiet (p : Part) : Quiet where
  loader := p.loader
  busRead := p.busRead
  serving := p.serving
  tables := p.tables
  seconds := p.seconds
  ms := p.ms
  door := p.door
  station := p.trunk.station
  server := p.trunk.server
  requests := p.trunk.requests
  response := p.trunk.response
  linkUp := p.trunk.linkUp
  runCount := p.trunk.runCount
  tx := p.trunk.tx
  lastFrame := p.trunk.lastFrame
  badFrames := p.trunk.badFrames
  badMessages := p.trunk.badMessages
  requestsDropped := p.trunk.requestsDropped
  entriesSkipped := p.trunk.entriesSkipped

/-! ### Plain updates -/

@[simp] theorem Part.modSlot_quiet (i : SlotId) (f : Slot → Slot) (p : Part) : (p.modSlot i f).quiet = p.quiet := rfl
@[simp] theorem Part.modAllSlots_quiet (f : Slot → Slot) (p : Part) : (p.modAllSlots f).quiet = p.quiet := rfl
@[simp] theorem Part.modZone_quiet (z : ZoneId) (f : Zone → Zone) (p : Part) : (p.modZone z f).quiet = p.quiet := rfl
@[simp] theorem Part.modTote_quiet (t : ToteId) (f : Tote → Tote) (p : Part) : (p.modTote t f).quiet = p.quiet := rfl
@[simp] theorem Part.joinQueue_quiet (i : SlotId) (p : Part) : (p.joinQueue i).quiet = p.quiet := rfl
@[simp] theorem Part.leaveQueue_quiet (i : SlotId) (p : Part) : (p.leaveQueue i).quiet = p.quiet := rfl

@[simp] theorem Part.withFresh_quiet (p : Part) (n : Nat) : ({ p with fresh := n } : Part).quiet = p.quiet := rfl
@[simp] theorem Part.withOrder_quiet (p : Part) (n : Nat) : ({ p with order := n } : Part).quiet = p.quiet := rfl

/-- Offering a notice touches the notice queue and the lost record alone. -/
theorem TrunkPort.offerNotice_quiet (n : Notice) (t : TrunkPort) :
    t.offerNotice n = { t with notices := (t.offerNotice n).notices, lostCount := (t.offerNotice n).lostCount,
                               lostHighest := (t.offerNotice n).lostHighest,
                               noticesLostTotal := (t.offerNotice n).noticesLostTotal } := by
  unfold TrunkPort.offerNotice TrunkPort.lose
  split
  · rfl
  · split
    · rfl
    · split <;> rfl

@[simp] theorem Part.raise_quiet (b : NoticeBody) (p : Part) : (p.raise b).quiet = p.quiet := by
  unfold Part.raise
  split
  · rfl
  · unfold Part.quiet Part.modTrunk
    simp only
    rw [TrunkPort.offerNotice_quiet]

@[simp] theorem Part.drawn_quiet (f : Nat → NoticeBody) (p : Part) : (p.drawn f).quiet = p.quiet := by
  exact Part.raise_quiet _ _

theorem Part.when_quiet {f : Part → Part} (h : ∀ q : Part, (f q).quiet = q.quiet) (c : Bool) (p : Part) :
    (p.when c f).quiet = p.quiet := Part.when_keeps c p (h p)

theorem Part.each_quiet {β : Type} {f : β → Part → Part} (h : ∀ b q, (f b q).quiet = q.quiet) (l : List β) (p : Part) :
    (p.each l f).quiet = p.quiet := Part.each_keeps h l p

theorem Part.eachFree_quiet {f : SlotId → Part → Part} (h : ∀ i q, (f i q).quiet = q.quiet) (l : List SlotId)
    (p : Part) : (p.eachFree l f).quiet = p.quiet := Part.eachFree_keeps h (fun _ _ => rfl) l p

/-! ### Zones -/

@[simp] theorem Part.latchAlarm_quiet (z : ZoneId) (p : Part) : (p.latchAlarm z).quiet = p.quiet := by
  unfold Part.latchAlarm; exact Part.each_quiet (by simp) _ _

@[simp] theorem Part.judgeZone_quiet (z : ZoneId) (p : Part) : (p.judgeZone z).quiet = p.quiet := by
  unfold Part.judgeZone
  simp only
  split
  · rfl
  · rw [Part.when_quiet (Part.latchAlarm_quiet z)]; simp

@[simp] theorem Part.takeOffer_quiet (z : ZoneId) (p : Part) : (p.takeOffer z).quiet = p.quiet := by
  unfold Part.takeOffer; simp

@[simp] theorem Part.judgeFault_quiet (z : ZoneId) (p : Part) : (p.judgeFault z).quiet = p.quiet := by
  unfold Part.judgeFault
  simp only
  split
  · simp
  · split <;> simp

@[simp] theorem Part.judgeAlarm_quiet (z : ZoneId) (t : Int) (p : Part) : (p.judgeAlarm z t).quiet = p.quiet := by
  unfold Part.judgeAlarm
  simp only
  split
  · simp
  · split <;> simp

@[simp] theorem Part.regulateZone_quiet (z : ZoneId) (p : Part) : (p.regulateZone z).quiet = p.quiet := by
  unfold Part.regulateZone; split <;> simp

@[simp] theorem Part.sampleZone_quiet (z : ZoneId) (a : SensorAnswer) (p : Part) : (p.sampleZone z a).quiet = p.quiet := by
  unfold Part.sampleZone
  cases readSample a <;> simp

/-! ### Slot state and totes -/

@[simp] theorem Part.changeState_quiet (i : SlotId) (st : SlotState) (p : Part) :
    (p.changeState i st).quiet = p.quiet := by
  unfold Part.changeState; rw [Part.when_quiet (Part.takeOffer_quiet _)]; simp

@[simp] theorem Part.reserve_quiet (t : ToteId) (i : SlotId) (p : Part) : (p.reserve t i).quiet = p.quiet := by
  unfold Part.reserve
  simp only [Part.changeState_quiet, Part.modSlot_quiet]
  rw [Part.when_quiet (by simp)]; simp

@[simp] theorem Part.requestPlace_quiet (t : ToteId) (i : SlotId) (p : Part) : (p.requestPlace t i).quiet = p.quiet := by
  unfold Part.requestPlace; split <;> simp

@[simp] theorem Part.serveQueue_quiet (t : ToteId) (k : Nat) (p : Part) : (p.serveQueue t k).quiet = p.quiet := by
  induction k generalizing p with
  | zero => rfl
  | succ k ih => unfold Part.serveQueue; split <;> simp [ih]

@[simp] theorem Part.serve_quiet (t : ToteId) (p : Part) : (p.serve t).quiet = p.quiet := by unfold Part.serve; simp

@[simp] theorem Part.enterToteWait_quiet (i : SlotId) (p : Part) : (p.enterToteWait i).quiet = p.quiet := by
  unfold Part.enterToteWait; simp

@[simp] theorem Part.place_quiet (i : SlotId) (p : Part) : (p.place i).quiet = p.quiet := by
  unfold Part.place; split <;> simp

@[simp] theorem Part.stray_quiet (i : SlotId) (p : Part) : (p.stray i).quiet = p.quiet := by
  unfold Part.stray; split <;> simp

@[simp] theorem Part.swap_quiet (t : ToteId) (p : Part) : (p.swap t).quiet = p.quiet := by unfold Part.swap; simp
@[simp] theorem Part.withdraw_quiet (t : ToteId) (p : Part) : (p.withdraw t).quiet = p.quiet := by
  unfold Part.withdraw; simp

@[simp] theorem Part.capacityChanged_quiet (t : ToteId) (cap : Nat) (p : Part) :
    (p.capacityChanged t cap).quiet = p.quiet := by
  unfold Part.capacityChanged
  simp only
  split
  · rfl
  · split <;> simp
  · split <;> simp

/-! ### Completions and the lane -/

@[simp] theorem Part.pushCompletion_quiet (c : Completion) (p : Part) : (p.pushCompletion c).quiet = p.quiet := rfl

@[simp] theorem Part.pushRefusal_quiet (c : Completion) (p : Part) : (p.pushRefusal c).quiet = p.quiet := by
  unfold Part.pushRefusal Part.modTrunk Part.quiet
  simp only
  split <;> rfl

@[simp] theorem Part.completeOpen_quiet (i : SlotId) (st : Status) (p : Part) : (p.completeOpen i st).quiet = p.quiet := by
  unfold Part.completeOpen
  simp only [Part.modSlot_quiet]
  exact Part.each_quiet (by simp) _ _

@[simp] theorem Part.cutCommand_quiet (i : SlotId) (p : Part) : (p.cutCommand i).quiet = p.quiet := by
  unfold Part.cutCommand; split <;> rfl

@[simp] theorem Part.cutReset_quiet (i : SlotId) (p : Part) : (p.cutReset i).quiet = p.quiet := by
  unfold Part.cutReset; split <;> rfl

@[simp] theorem Part.sendReset_quiet (i : SlotId) (p : Part) : (p.sendReset i).quiet = p.quiet := by
  unfold Part.sendReset; simp

@[simp] theorem Part.commandSent_quiet (i : SlotId) (p : Part) : (p.commandSent i).quiet = p.quiet := by
  unfold Part.commandSent; split <;> rfl

@[simp] theorem Part.resetSent_quiet (i : SlotId) (p : Part) : (p.resetSent i).quiet = p.quiet := by
  unfold Part.resetSent; split <;> rfl

@[simp] theorem Part.serviceSilence_quiet (i : SlotId) (p : Part) : (p.serviceSilence i).quiet = p.quiet := by
  unfold Part.serviceSilence; split <;> rfl

@[simp] theorem Part.refuse_quiet (i : SlotId) (tag code : Byte) (st : Status) (p : Part) :
    (p.refuse i tag code st).quiet = p.quiet := by
  unfold Part.refuse; simp

@[simp] theorem Part.admitEntry_quiet (i : SlotId) (e : Entry) (p : Part) : (p.admitEntry i e).quiet = p.quiet := by
  unfold Part.admitEntry; simp

@[simp] theorem Part.slotCommand_quiet (i : SlotId) (tag code : Byte) (body : List Byte) (p : Part) :
    (p.slotCommand i tag code body).quiet = p.quiet := by
  unfold Part.slotCommand; split <;> simp

@[simp] theorem Part.orphan_quiet (i : SlotId) (p : Part) : (p.orphan i).quiet = p.quiet := rfl
@[simp] theorem Part.laneError_quiet (i : SlotId) (p : Part) : (p.laneError i).quiet = p.quiet := rfl

@[simp] theorem Part.hand_quiet (i : SlotId) (x : Handing) (p : Part) : (p.hand i x).1.quiet = p.quiet := by
  unfold Part.hand
  simp only
  split
  · split <;> rfl
  · rfl

/-! ### The life cycle -/

@[simp] theorem Part.grant_quiet (i : SlotId) (rest : List SlotId) (p : Part) : (p.grant i rest).quiet = p.quiet := by
  unfold Part.grant; simp; rfl

@[simp] theorem Part.grantLoop_quiet (k : Nat) (p : Part) : (p.grantLoop k).quiet = p.quiet := by
  induction k generalizing p with
  | zero => rfl
  | succ k ih =>
    unfold Part.grantLoop
    split
    · rfl
    · split
      · simp [ih]
      · rfl

@[simp] theorem Part.grants_quiet (p : Part) : p.grants.quiet = p.quiet := by unfold Part.grants; simp

@[simp] theorem Part.stepEnded_quiet (i : SlotId) (e : Ending) (p : Part) : (p.stepEnded i e).quiet = p.quiet := by
  unfold Part.stepEnded; simp

@[simp] theorem Part.stepEnter_quiet (i : SlotId) (k : Nat) (p : Part) : (p.stepEnter i k).quiet = p.quiet := by
  unfold Part.stepEnter; simp

@[simp] theorem Part.chain_quiet (i : SlotId) (k : Nat) (p : Part) : (p.chain i k).1.quiet = p.quiet := by
  induction k generalizing p with
  | zero => rfl
  | succ k ih =>
    unfold Part.chain
    split
    · split
      · rfl
      · simp [ih]
    · rfl

@[simp] theorem Part.spindownOver_quiet (i : SlotId) (p : Part) : (p.spindownOver i).quiet = p.quiet := by
  unfold Part.spindownOver; simp only; split <;> simp

@[simp] theorem Part.enterSpindown_quiet (i : SlotId) (p : Part) : (p.enterSpindown i).quiet = p.quiet := by
  unfold Part.enterSpindown; simp only; split <;> simp

@[simp] theorem Part.enterDraining_quiet (i : SlotId) (e : Ending) (p : Part) :
    (p.enterDraining i e).quiet = p.quiet := by
  unfold Part.enterDraining; simp

@[simp] theorem Part.gradeSlot_quiet (i : SlotId) (p : Part) : (p.gradeSlot i).quiet = p.quiet := by
  unfold Part.gradeSlot; simp

@[simp] theorem Part.enterSteps_quiet (i : SlotId) (p : Part) : (p.enterSteps i).1.quiet = p.quiet := by
  unfold Part.enterSteps; simp

@[simp] theorem Part.enterRetest_quiet (i : SlotId) (r : Fin 16) (p : Part) : (p.enterRetest i r).1.quiet = p.quiet := by
  unfold Part.enterRetest; simp

@[simp] theorem Part.leaveDraining_quiet (i : SlotId) (p : Part) : (p.leaveDraining i).quiet = p.quiet := by
  unfold Part.leaveDraining; simp

@[simp] theorem Part.endDraining_quiet (i : SlotId) (k : Nat) (p : Part) : (p.endDraining i k).quiet = p.quiet := by
  induction k generalizing p with
  | zero => unfold Part.endDraining; simp
  | succ k ih =>
    unfold Part.endDraining
    simp only
    split
    · simp
    · split <;> simp [ih]

@[simp] theorem Part.drainCheck_quiet (i : SlotId) (p : Part) : (p.drainCheck i).quiet = p.quiet := by
  unfold Part.drainCheck; split <;> simp

@[simp] theorem Part.afterChain_quiet (i : SlotId) (c : Part × Bool) : (Part.afterChain i c).quiet = c.1.quiet := by
  unfold Part.afterChain; split <;> simp

@[simp] theorem Part.settle_quiet (i : SlotId) (p : Part) : (p.settle i).quiet = p.quiet := by
  unfold Part.settle; simp

@[simp] theorem Part.endStep_quiet (i : SlotId) (e : Ending) (p : Part) : (p.endStep i e).quiet = p.quiet := by
  unfold Part.endStep; split <;> simp

@[simp] theorem Part.leaveSpinup_quiet (was : SlotState) (p : Part) : (p.leaveSpinup was).quiet = p.quiet := by
  unfold Part.leaveSpinup; split <;> rfl

@[simp] theorem Part.endEarly_quiet (i : SlotId) (c : Cause) (p : Part) : (p.endEarly i c).quiet = p.quiet := by
  unfold Part.endEarly; simp only; rw [Part.when_quiet Part.grants_quiet]; simp

@[simp] theorem Part.endIn_quiet (acts : SlotState → Bool) (i : SlotId) (c : Cause) (p : Part) :
    (p.endIn acts i c).quiet = p.quiet := by
  unfold Part.endIn; split <;> simp

@[simp] theorem Part.abort_quiet (i : SlotId) (c : Cause) (p : Part) : (p.abort i c).quiet = p.quiet := by
  unfold Part.abort; split <;> simp

@[simp] theorem Part.noShow_quiet (i : SlotId) (p : Part) : (p.noShow i).quiet = p.quiet := by
  unfold Part.noShow; simp

@[simp] theorem Part.moveCondemned_quiet (i : SlotId) (p : Part) : (p.moveCondemned i).quiet = p.quiet := by
  unfold Part.moveCondemned
  split
  · split <;> simp
  · rfl

@[simp] theorem Part.condemn_quiet (i : SlotId) (p : Part) : (p.condemn i).quiet = p.quiet := by
  unfold Part.condemn; simp

@[simp] theorem Part.drivePulled_quiet (i : SlotId) (p : Part) : (p.drivePulled i).quiet = p.quiet := by
  unfold Part.drivePulled; simp

@[simp] theorem Part.lossEffects_quiet (i : SlotId) (p : Part) : (p.lossEffects i).quiet = p.quiet := by
  unfold Part.lossEffects; split <;> simp

@[simp] theorem Part.enterEmpty_quiet (i : SlotId) (p : Part) : (p.enterEmpty i).quiet = p.quiet := by
  unfold Part.enterEmpty; simp

@[simp] theorem Part.loseDrive_quiet (i : SlotId) (p : Part) : (p.loseDrive i).quiet = p.quiet := by
  unfold Part.loseDrive; simp only; rw [Part.when_quiet Part.grants_quiet]; simp

@[simp] theorem Part.seatQuietly_quiet (i : SlotId) (p : Part) : (p.seatQuietly i).quiet = p.quiet := by
  unfold Part.seatQuietly; simp

@[simp] theorem Part.seat_quiet (i : SlotId) (p : Part) : (p.seat i).quiet = p.quiet := by unfold Part.seat; simp

@[simp] theorem Part.tripZone_quiet (z : ZoneId) (p : Part) : (p.tripZone z).quiet = p.quiet := by
  unfold Part.tripZone; exact Part.eachFree_quiet (by simp) _ _

/-! ### Ticks and lines -/

@[simp] theorem Part.forceStep_quiet (i : SlotId) (st : StepEntry) (p : Part) : (p.forceStep i st).quiet = p.quiet := by
  unfold Part.forceStep
  simp only [Part.endStep_quiet, Part.raise_quiet]
  rw [Part.when_quiet (by simp)]

@[simp] theorem Part.advanceStep_quiet (i : SlotId) (st : StepEntry) (p : Part) :
    (p.advanceStep i st).quiet = p.quiet := by
  unfold Part.advanceStep; split <;> simp

@[simp] theorem Part.stepTick_quiet (i : SlotId) (p : Part) : (p.stepTick i).quiet = p.quiet := by
  unfold Part.stepTick
  split
  · rfl
  · split <;> simp

@[simp] theorem Part.slotSecond_quiet (i : SlotId) (p : Part) : (p.slotSecond i).quiet = p.quiet := by
  unfold Part.slotSecond
  split
  · rfl
  · simp only; rw [Part.when_quiet (by simp)]; simp

@[simp] theorem Part.stepLimit_quiet (i : SlotId) (p : Part) : (p.stepLimit i).quiet = p.quiet :=
  Part.when_quiet (Part.slotSecond_quiet i) _ _

@[simp] theorem Part.presenceLine_quiet (i : SlotId) (b : Bool) (p : Part) : (p.presenceLine i b).quiet = p.quiet := rfl
@[simp] theorem Part.ejectLine_quiet (i : SlotId) (b : Bool) (p : Part) : (p.ejectLine i b).quiet = p.quiet := rfl

@[simp] theorem Part.arrival_quiet (i : SlotId) (p : Part) : (p.arrival i).quiet = p.quiet := by
  unfold Part.arrival
  split
  · simp only; rw [Part.when_quiet (Part.seat_quiet i)]; simp
  · rfl

@[simp] theorem Part.loss_quiet (i : SlotId) (p : Part) : (p.loss i).quiet = p.quiet := by
  unfold Part.loss
  split
  · simp only; split <;> simp
  · rfl

@[simp] theorem Part.ejectPress_quiet (i : SlotId) (p : Part) : (p.ejectPress i).quiet = p.quiet := by
  unfold Part.ejectPress; split <;> rfl

@[simp] theorem Part.ejectRelease_quiet (i : SlotId) (p : Part) : (p.ejectRelease i).quiet = p.quiet := by
  unfold Part.ejectRelease; split <;> rfl

/-! ### Events at a slot -/

@[simp] theorem Part.enterIdent_quiet (i : SlotId) (p : Part) : (p.enterIdent i).quiet = p.quiet := by
  unfold Part.enterIdent; simp only; split <;> simp

@[simp] theorem Part.spinupOver_quiet (i : SlotId) (p : Part) : (p.spinupOver i).quiet = p.quiet := by
  unfold Part.spinupOver; split <;> simp

@[simp] theorem Part.noShowOver_quiet (i : SlotId) (p : Part) : (p.noShowOver i).quiet = p.quiet := by
  unfold Part.noShowOver; split <;> simp

@[simp] theorem Part.spindownExpiry_quiet (i : SlotId) (p : Part) : (p.spindownExpiry i).quiet = p.quiet := by
  unfold Part.spindownExpiry; split <;> simp

@[simp] theorem Part.currentFault_quiet (i : SlotId) (p : Part) : (p.currentFault i).quiet = p.quiet := by
  unfold Part.currentFault; split <;> simp

@[simp] theorem Part.silenceWarning_quiet (i : SlotId) (b : Bool) (p : Part) :
    (p.silenceWarning i b).quiet = p.quiet := by
  unfold Part.silenceWarning; simp

@[simp] theorem Part.silenceFirst_quiet (i : SlotId) (p : Part) : (p.silenceFirst i).quiet = p.quiet := by
  unfold Part.silenceFirst; split <;> simp

@[simp] theorem Part.silenceSecond_quiet (i : SlotId) (p : Part) : (p.silenceSecond i).quiet = p.quiet := by
  unfold Part.silenceSecond; split <;> simp

@[simp] theorem Part.holdOver_quiet (i : SlotId) (p : Part) : (p.holdOver i).quiet = p.quiet := by
  unfold Part.holdOver; split <;> simp

@[simp] theorem Part.identified_quiet (i : SlotId) (d : Identity) (p : Part) : (p.identified i d).quiet = p.quiet := by
  unfold Part.identified; simp

@[simp] theorem Part.probeAnswer_quiet (i : SlotId) (m : CompletionMsg) (p : Part) :
    (p.probeAnswer i m).quiet = p.quiet := by
  unfold Part.probeAnswer
  split
  · simp
  · split <;> simp

@[simp] theorem Part.matched_quiet (i : SlotId) (e : Entry) (t : Time) (m : CompletionMsg) (p : Part) :
    (p.matched i e t m).quiet = p.quiet := by
  unfold Part.matched; simp only; rw [Part.when_quiet (Part.condemn_quiet i)]; simp

@[simp] theorem Part.takeCompletion_quiet (i : SlotId) (m : CompletionMsg) (p : Part) :
    (p.takeCompletion i m).quiet = p.quiet := by
  unfold Part.takeCompletion
  split
  · simp
  · split
    · simp
    · simp
    · split
      · split <;> simp
      · simp

@[simp] theorem Part.laneCompletion_quiet (i : SlotId) (u : List Byte) (p : Part) :
    (p.laneCompletion i u).quiet = p.quiet := by
  unfold Part.laneCompletion; split <;> simp

@[simp] theorem Part.laneDropped_quiet (i : SlotId) (u : List Byte) (p : Part) : (p.laneDropped i u).quiet = p.quiet :=
  Part.when_quiet (Part.laneError_quiet i) _ _

@[simp] theorem Part.laneNotice_quiet (i : SlotId) (o : RecoveryOutcome) (tag : Byte) (p : Part) :
    (p.laneNotice i o tag).quiet = p.quiet := by
  unfold Part.laneNotice; simp

@[simp] theorem Part.laneReady_quiet (i : SlotId) (p : Part) : (p.laneReady i).quiet = p.quiet := by
  unfold Part.laneReady; split <;> simp

@[simp] theorem Part.startRecovery_quiet (i : SlotId) (tag : Byte) (p : Part) :
    (p.startRecovery i tag).quiet = p.quiet := by
  unfold Part.startRecovery; simp

@[simp] theorem Part.timedOut_quiet (i : SlotId) (e : Entry) (p : Part) : (p.timedOut i e).quiet = p.quiet := by
  unfold Part.timedOut
  simp only
  split <;> simp [Part.when_quiet (Part.condemn_quiet i)]

@[simp] theorem Part.commandTimeout_quiet (i : SlotId) (tag : Byte) (p : Part) :
    (p.commandTimeout i tag).quiet = p.quiet := by
  unfold Part.commandTimeout
  split
  · split <;> simp
  · rfl

@[simp] theorem Part.recoveryOver_quiet (i : SlotId) (p : Part) : (p.recoveryOver i).quiet = p.quiet := by
  unfold Part.recoveryOver; split <;> simp

@[simp] theorem Part.alarmOver_quiet (z : ZoneId) (p : Part) : (p.alarmOver z).quiet = p.quiet := by
  unfold Part.alarmOver; split <;> simp

@[simp] theorem Part.startSlot_quiet (i : SlotId) (r : Fin 16) (p : Part) : (p.startSlot i r).quiet = p.quiet := by
  unfold Part.startSlot; simp

@[simp] theorem Part.stepDoneEffect_quiet (i : SlotId) (p : Part) : (p.stepDoneEffect i).quiet = p.quiet := by
  unfold Part.stepDoneEffect
  simp only
  split
  · simp
  · split
    · simp
    · simp
    · split <;> simp

@[simp] theorem Part.release_quiet (i : SlotId) (tag : Byte) (p : Part) : (p.release i tag).quiet = p.quiet := by
  unfold Part.release; simp

@[simp] theorem Part.enableChange_quiet (old : BitVec 24) (i : SlotId) (p : Part) :
    (p.enableChange old i).quiet = p.quiet := by
  unfold Part.enableChange
  split
  · simp
  · split <;> simp

@[simp] theorem Part.seatIfSeatable_quiet (i : SlotId) (p : Part) : (p.seatIfSeatable i).quiet = p.quiet :=
  Part.when_quiet (Part.seatQuietly_quiet i) _ _

@[simp] theorem Part.resetLaneIfPresent_quiet (i : SlotId) (p : Part) : (p.resetLaneIfPresent i).quiet = p.quiet := by
  unfold Part.resetLaneIfPresent; split <;> simp

@[simp] theorem Part.trafficResetSlot_quiet (i : SlotId) (p : Part) : (p.trafficResetSlot i).quiet = p.quiet := by
  unfold Part.trafficResetSlot; simp

@[simp] theorem Part.rackResetSlot_quiet (i : SlotId) (p : Part) : (p.rackResetSlot i).quiet = p.quiet := by
  unfold Part.rackResetSlot; simp

@[simp] theorem Part.rackResetShared_quiet (p : Part) : p.rackResetShared.quiet = p.quiet := rfl

/-- A row of Table 1-2 with another request at the head changes nothing (log entry 1). -/
theorem Part.take_of_other {p : Part} {w : Request → Bool} {r : Request} {rest : List Request}
    (f : Request → Part → Answer) (hq : p.trunk.requests = r :: rest) (hw : w r = false) : Part.take w f p = p := by
  unfold Part.take
  split
  · rename_i _ e
    rw [hq] at e
    cases e
    rw [if_neg (by rw [hw]; exact Bool.false_ne_true)]
  · rfl

end Sys2Proof.Machine
end

