-- ==== Sys2Proof/WellFormed.lean ====
section
/-! DEFINITION. Which commands are well formed: the operands that bytes carry agree with the command's name (log entry 21). Slots, zones and levels are well formed by their types. -/

namespace Sys2Proof

/-- Is the judgement a COMPLETION? -/
def LaneMsg.isCompletion : LaneMsg → Bool
  | .completion _ => true
  | .dropped => false
  | .ready => false

/-- Well-formed commands: an image read is no longer than the serial memory's image, a transfer that was ended leaves some of it unread, and a lane unit is what its command's name says. -/
def Instr.wellFormed : Instr → Bool
  | .configTransferTimeout ended => ended.acked.length < Config.imageMax
  | .configImageLoadEnd acked => acked.length ≤ Config.imageMax
  | .laneMessageDropped _ unit => judgeUnit unit == .dropped
  | .laneCompletion _ unit => (judgeUnit unit).isCompletion
  | .powerOn _ _ _ _ | .trunkFrameReceived _ _ _ _ _ | .unknownRequestCode | .readPartId | .loadEntry
  | .readEntry | .readSlot | .readZone | .readCounters | .startSlot | .stepDone | .abortSlot | .service
  | .toteSwap | .toteWithdraw | .resetTraffic | .resetRack | .transmitChoice | .frameSendEnd | .linkUp
  | .linkDown | .timeBaseTick | .slotSecondTick _ | .stepTimeLimitExpiry _ | .presenceLineChange _ _
  | .presenceArrival _ | .presenceLoss _ | .spinupWindowExpiry _ | .noShowWindowExpiry _
  | .spindownWaitExpiry _ | .laneCommandSendEnd _ | .resetLaneSendEnd _ | .laneReady _
  | .commandTimeout _ _ | .laneRecoveryWindowExpiry _ | .currentFault _ | .silenceFirstExpiry _
  | .silenceSecondExpiry _ | .ejectLineChange _ _ | .ejectPressed _ | .ejectReleased _
  | .ejectHoldExpiry _ | .doorLineChange _ | .doorChanged | .sensorReadTimeout | .sensorSample _
  | .alarmTimerExpiry _ => true

end Sys2Proof
end

