-- ==== Sys2Proof/Tests/Slice0.lean ====
section
/-! SUPPORT. The model's own tests: ill-formed commands are refused by the check, a few commands on small states, and for each statement with hypotheses a state and operands that meet them, clause by clause. -/

open Sys2Proof Sys2Proof.Machine

namespace Sys2Proof.Tests

/-! ### Small states -/

/-- A number of zero bytes. -/
def zeros (n : Nat) : List Byte := List.replicate n 0

theorem zeros_length (n : Nat) : (zeros n).length = n := List.length_replicate

/-- A part in READY with its door closed and its link up; everything else as at power-on. -/
def base : Part :=
  { Part.powerUp 0 0 0 true 0 0 with
    loader := ⟨.ready, 0, some .absent, 0, 0, none, 0⟩
    door := ⟨false, false, none⟩
    trunk := { TrunkPort.powerUp 0 with linkUp := true } }

/-- A state with a part and no command waiting. -/
def st (p : Part) : State := ⟨[], p⟩

/-- The part with slot 0 changed. -/
def s0 (f : Slot → Slot) : Part := base.modSlot 0 f

/-- A request at the head of the queue, and none behind it. -/
def asks (r : Request) (p : Part) : State := st { p with trunk := { p.trunk with requests := [r] } }

/-- A request from the server whose address is 1, with tag 7. -/
def req (slot code : Byte) (body : List Byte) : Request := ⟨1, slot, 7, code, body⟩

/-- A step entry with an advance mode, a dwell target, a time limit and a silence interval; every class allowed. -/
def stepOf (a : Advance) (dwell limit silence : Nat) : StepEntry :=
  { StepEntry.powerUp with mask := 0xFF, advance := a, dwell := dwell, limit := limit, silence := silence, scoring := true }

/-- A part with recipe 0 of two steps, a class-0 filter entry for code 1, and the steps given. -/
def shelf (a b : StepEntry) (p : Part) : Part :=
  p.modTables fun t =>
    { t with
      recipes := t.recipes.set 0 ⟨0, 2, 0⟩
      steps := (t.steps.set 0 a).set 1 b
      filters := t.filters.set 0 ⟨true, 1, 0⟩ }

/-- Slot 0 in a state of its test, in step 0 of recipe 0. -/
def inTest (x : SlotState) (f : Slot → Slot) (p : Part) : Part :=
  p.modSlot 0 fun s => (f { s with recipe := some 0, state := x }).dress

/-- An entry with a tag and a state. -/
def entry (tag : Byte) (x : EntryState) : Entry :=
  { tag := tag, code := 2, body := [], cls := 7, timeout := 100, slow := 50, coverage := false, scored := true, step := 0,
    state := x }

/-- A timer that is due. -/
def dueTimer : Option Timer := some ⟨3, 4⟩

/-- A completion made for an entry of slot 0. -/
def made (tag : Byte) : Completion :=
  { slot := 0, tag := tag, status := .timeout, delta := 0, coverage := 0, identity := none, latency := 0, step := 0, cls := 7,
    forEntry := true }

/-- A frame being sent. -/
def aFrame : Frame := ⟨1, 2, 0x88B5, []⟩

/-- A part whose transmitter sends a frame for a source. -/
def sends (x : TxSource) : Part := { base with trunk := { base.trunk with tx := .sending x aFrame } }

/-- An identity of a drive. -/
def anIdentity : Identity := ⟨List.replicate 20 0x41, List.replicate 8 0x42, 1000⟩

/-! ### Ill-formed commands are refused by the check -/

theorem test_wf_transfer_timeout_too_long : Instr.wellFormed (.configTransferTimeout ⟨0, zeros 16384⟩) = false := by
  simp [Instr.wellFormed, Config.imageMax, zeros_length]

theorem test_wf_image_too_long : Instr.wellFormed (.configImageLoadEnd (zeros 16385)) = false := by
  simp [Instr.wellFormed, Config.imageMax, zeros_length]

theorem test_wf_dropped_unit_is_good : Instr.wellFormed (.laneMessageDropped 0 laneReadyUnit) = false := by decide

theorem test_wf_completion_unit_is_not_one : Instr.wellFormed (.laneCompletion 0 laneReadyUnit) = false := by decide

theorem test_wf_good_commands : Instr.wellFormed (.configTransferTimeout ⟨0, []⟩) = true ∧
    Instr.wellFormed (.laneCompletion 23 (completionUnit 0 4 255 65535 none)) = true ∧
    Instr.wellFormed (.laneMessageDropped 23 (completionUnit 0 5 0 0 none)) = true := by decide

/-! ### The hypotheses of the statements are met: the machine, loading, frames -/

theorem witness_StepTakesTheFront : (⟨[.linkUp, .linkDown], base⟩ : State).pending = .linkUp :: [.linkDown] ∧
    State.reset.pending = [] := ⟨rfl, rfl⟩

/-- A loader that has counted `n` ticks in LOADING. -/
def loading (n : Nat) (failed : Option (List Byte)) : Loader := ⟨.loading, 0, none, 0, 0, failed, n⟩

theorem witness_ImageLoadEnds :
    (State.reset.part.loader.phase = .loading ∧ State.reset.part.loader.failedRead = none ∧ State.reset.part.spinQueue = []) ∧
    ((loading 50 none).failedRead = none ∧ 0 + 50 ≤ (loading 50 none).counted ∧ (loading 49 none).counted < 0 + 50 ∧
      (loading 50 (some [])).failedRead ≠ none ∧ base.loader.phase = .ready) ∧
    ((loading 50 (some [0x4A])).failedRead = some [0x4A] ∧ ([0x4A] : List Byte).length < 2 ∧ field [0x4A, 0x47] 0 2 ≠ 0x4A46 ∧
      2 ≤ ([0x4A, 0x46] : List Byte).length ∧ field [0x4A, 0x46] 0 2 = 0x4A46) ∧
    (State.reset.part.loader.verdict [0x4A] ≠ .applied ∧ State.reset.part.loader.verdict [0x4A, 0x46] ≠ .applied) := by decide

/-- The image of a header alone, with another byte at an offset. -/
def spoilt (k : Nat) (b : Byte) : List Byte := (imageOf 0 0 []).set k b

theorem witness_ImageLoadEnds_verdicts :
    (laneSum ((imageOf 0 0 []).take 4 ++ (imageOf 0 0 []).drop 6) = field (imageOf 0 0 []) 4 2 ∧ field (imageOf 0 0 []) 2 2 = 14 ∧
      (imageOf 0 0 []).drop 14 = ([] : List (List Byte)).flatMap fun r => beBytes 2 r.length ++ r) ∧
    (field (spoilt 3 13) 2 2 < 14 ∧ 16384 < field (spoilt 2 0x40) 2 2 ∧ 14 < field (spoilt 3 15) 2 2 ∧
      laneSum ((spoilt 13 1).take 4 ++ (spoilt 13 1).drop 6) ≠ field (spoilt 13 1) 4 2) := by decide

theorem witness_ImageLoadEnds_records :
    (∀ r ∈ [zeros 16368], r.length < 65536) ∧ (imageOf 0 0x0600 [zeros 16368]).length ≤ 16384 ∧
    ([7] : List Byte).length < 2 ∧ 2 ≤ ([7, 17, 3] : List Byte).length ∧ (State.reset.part.load [7, 17, 3]).status = .ok := by
  refine ⟨?_, ?_, by decide, by decide, by decide⟩ <;> simp [imageOf, zeros_length]

theorem witness_ImageRoundTrip :
    (∀ r ∈ [zeros 16368], r.length < 65536) ∧ (imageOf 0xFFFFFFFFFFFF 0xFFFF [zeros 16368]).length = 16384 ∧
    (imageOf 0 0 []).length = 14 := by
  simp [imageOf, zeros_length]

theorem witness_ReceivedFramesAreJudged :
    ((1 : Mac) ≠ base.trunk.station ∧ (1 : Mac) ≠ 0xFFFFFFFFFFFF) ∧ (0x88B6 : BitVec 16) ≠ base.tables.rack.trunkType ∧
    ([1, 0, 0, 0, 0] : List Byte).length < 6 ∧ 1024 < field [3, 255, 0, 1, 4, 1] 4 2 ∧
    ([3, 255, 0, 1, 0, 1] : List Byte).length - 6 < field [3, 255, 0, 1, 0, 1] 4 2 ∧
    (field [2, 0, 0, 0, 0, 0] 0 1 ≠ 1 ∧ field [2, 0, 0, 0, 0, 0] 0 1 ≠ 3) ∧
    (field [1, 24, 0, 0, 0, 0] 0 1 = 1 ∧ 23 < field [1, 24, 0, 0, 0, 0] 1 1) ∧
    ([] : List Byte).length ≤ 1024 := by decide

theorem witness_MessageRoundTrip : (zeros 1024).length ≤ 1024 := by simp [zeros_length]

theorem witness_AdmissionChecks :
    ((∀ j : Fin 64, (shelf (stepOf .server 0 0 0) .powerUp base).tables.filters[j].valid = true →
      (shelf (stepOf .server 0 0 0) .powerUp base).tables.filters[j].code =
        (shelf (stepOf .server 0 0 0) .powerUp base).tables.filters[(0 : Fin 64)].code → j = 0) ∧
      (shelf (stepOf .server 0 0 0) .powerUp base).tables.filters[(0 : Fin 64)].valid = true) ∧
    (∀ j : Fin 64, (shelf (stepOf .server 0 0 0) .powerUp base).tables.filters[j].valid = true →
      (shelf (stepOf .server 0 0 0) .powerUp base).tables.filters[j].code ≠ 2) := by decide

/-- Slot 0 in RUNNING in a step of mode SERVER. -/
def running (f : Slot → Slot) : Part := inTest .running f (shelf (stepOf .server 0 0 5) (stepOf .both 1 0 0) base)

/-- Entries with tags from `n` on. -/
def entries : Nat → Byte → List Entry
  | 0, _ => []
  | k + 1, tag => entry tag .done :: entries k (tag + 1)

theorem witness_CommandRefused :
    base.admission 0 255 2 [] = some .refusedTag ∧ base.admission 0 254 2 [] = some .refusedState ∧
    (running fun s => { s with lane := .recovering }).admission 0 254 2 [] = some .refusedRecovering ∧
    ((running id).modZone 0 fun z => { z with state := .alarm }).admission 0 254 2 [] = some .refusedZone ∧
    ((running id).modTables fun t => { t with steps := t.steps.set 0 { stepOf .server 0 0 0 with mask := 0x7F } }).admission 0 254 2 [] =
      some .refusedClass ∧
    (running fun s => { s with outstanding := entries 1 254 }).admission 0 254 2 [] = some .refusedTag ∧
    (running fun s => { s with outstanding := entries 8 0 }).admission 0 254 2 [] = some .refusedFull ∧
    (running id).admission 0 254 2 (zeros 65) = some .refusedSize := by decide

theorem witness_CommandAdmitted :
    (running fun s => { s with outstanding := entries 7 0 }).admission 0 254 2 (zeros 64) = none ∧
    0 < (running id).interval 0 ∧ (running fun s => { s with stepIndex := 1 }).interval 0 = 0 ∧
    (running fun s => { s with stepIndex := 1 }).admission 0 0 2 [] = none ∧
    (inTest .condemned id (shelf (stepOf .server 0 0 5) .powerUp base)).admission 0 254 2 [] = none ∧
    ((running id).slot 0).laneTx = .idle ∧ (running fun s => { s with laneTx := .resetLane }).admission 0 254 2 [] = none := by decide

/-! ### Management requests -/

/-- A request that `asks` put at the head is about to be taken in READY. -/
theorem asks_head (r : Request) (p : Part) (h : p.loader.phase = .ready) (h' : p.trunk.response = none) :
    (asks r p).part.Head r [] := ⟨h, h', rfl⟩

theorem witness_GeneralChecksInOrder :
    (generalCheck .ready (req 255 0x77 []) = some .badRequest ∧ takes .unknownRequestCode (req 255 0x77 []) = true) ∧
    (generalCheck .loading (req 24 0x20 []) = some .notReady ∧ takes .startSlot (req 24 0x20 []) = true) ∧
    (generalCheck .ready (req 24 0x20 []) = some .badIndex ∧ takes .startSlot (req 24 0x20 []) = true) ∧
    (generalCheck .ready (req 254 0x23 []) = some .badIndex ∧ takes .service (req 254 0x23 []) = true) ∧
    (generalCheck .ready (req 255 0x02 [0]) = some .badRequest ∧ takes .loadEntry (req 255 0x02 [0]) = true) ∧
    reqOf 0x77 = none ∧ (st base).part.trunk.response = none ∧ (st base).part.trunk.requests = [] ∧
    (asks (req 255 0x77 []) base).part.trunk.requests = [req 255 0x77 []] ∧
    (some ⟨0, 0, .ok, false, []⟩ : Option Response) ≠ none := by decide

theorem witness_RefusedRequestChangesNothing :
    (asks (req 0 0x20 [16]) base).part.trunk.response = none ∧
    (asks (req 0 0x20 [16]) base).part.trunk.requests = req 0 0x20 [16] :: [] ∧
    takes .startSlot (req 0 0x20 [16]) = true := by decide

theorem witness_ReadPartIdAnswers :
    (asks (req 255 0x01 []) base).part.trunk.response = none ∧
    (asks (req 255 0x01 []) base).part.trunk.requests = ⟨1, 255, 7, 0x01, []⟩ :: [] ∧
    (asks (req 255 0x01 []) base).part.loader.phase = .ready ∧
    (asks (req 255 0x01 []) State.reset.part).part.trunk.response = none ∧
    (asks (req 255 0x01 []) State.reset.part).part.loader.phase = .loading := by decide

theorem witness_LoadEntryRefusals :
    (∀ n k c, (asks (req 255 0x02 (n :: k :: c)) base).part.Head ⟨1, 255, 7, 0x02, n :: k :: c⟩ []) ∧
    ((∃ i r, ((running id).slot i).references = true ∧ (running id).recipeOf i = some r ∧ r.limit.val = (0 : Byte).toNat) ∧
      (∃ i : SlotId, (running id).tables.rack.enables[i] = true ∧ (slotSetAt (zeros 24) 2)[i] = false ∧
        ((running id).slot i).state ≠ .empty ∧ ((running id).slot i).state ≠ .seated)) ∧
    ((∀ i, (base.slot i).references = false) ∧
      (128 < field [127, 2, 0] 0 1 + field [127, 2, 0] 1 1) ∧ 127 < field [128, 0, 0] 0 1 ∧ 16 < field [0, 17, 0] 1 1 ∧
      7 < field [0, 1, 8] 2 1 ∧ 2 < field ([0, 0, 0, 0, 0, 0, 0, 0, 3] ++ zeros 5) 8 1 ∧
      field (zeros 5 ++ [0, 1] ++ zeros 19) 7 2 < field (zeros 5 ++ [0, 1] ++ zeros 19) 5 2 ∧
      field (zeros 13 ++ [0, 1] ++ zeros 11) 15 2 < field (zeros 13 ++ [0, 1] ++ zeros 11) 13 2 ∧
      (field [7, 3, 3, 1, 16] 3 1 = 1 ∧ 15 < field [7, 3, 3, 1, 16] 4 1) ∧ 1 < field [7, 3, 3, 2, 0] 3 1 ∧
      field (zeros 24) 0 2 < 0x0600 ∧ field (5 :: 255 :: zeros 22) 0 2 < 0x0600) ∧
    9 < (10 : Byte).toNat ∧ (8 : Byte).toNat < 9 ∧ (zeros 25).length ≠ [6, 3, 3, 14, 26, 5, 1, 1, 24].getD (8 : Byte).toNat 0 ∧
    ((zeros 14).length = [6, 3, 3, 14, 26, 5, 1, 1, 24].getD (3 : Byte).toNat 0 ∧
      [8, 64, 16, 128, 8, 9, 8, 18, 1].getD (3 : Byte).toNat 0 ≤ (128 : Byte).toNat) ∧
    ((zeros 3).length = 3 ∧ ∃ i r, ((inTest .powerWait id base).slot i).references = true ∧
      ((inTest .powerWait id base).slot i).recipe = some r ∧ r.val = (0 : Byte).toNat) ∧
    (∃ i r, ((running id).slot i).references = true ∧ (running id).recipeOf i = some r ∧ r.first ≤ (1 : Byte).toNat ∧
      (1 : Byte).toNat < r.first + r.count) ∧
    1 < field [0, 1, 0, 1, 2, 0] 4 1 ∧ 1 < field [0, 1, 0, 1, 0, 2] 5 1 ∧ 7 < field [1, 1, 8] 2 1 ∧
    (field [1, 1, 7] 0 1 = 1 ∧ field [1, 1, 7] 2 1 ≤ 7 ∧ ∃ j : Fin 64, j.val ≠ (63 : Byte).toNat ∧
      (running id).tables.filters[j].valid = true ∧ (running id).tables.filters[j].code.toNat = field [1, 1, 7] 1 1) :=
  ⟨fun _ _ _ => ⟨rfl, rfl, rfl⟩, ⟨⟨0, ⟨0, 2, 0⟩, by decide⟩, 0, by decide⟩, by decide, by decide, by decide, by decide, by decide,
    ⟨by decide, 0, 0, by decide⟩,
    ⟨0, ⟨0, 2, 0⟩, by decide⟩, by decide, by decide, by decide, by decide, by decide, ⟨0, by decide⟩⟩

theorem witness_LoadEntryStores :
    (∀ body, (asks (req 255 0x02 body) (running id)).part.Head ⟨1, 255, 7, 0x02, body⟩ []) ∧
    (65535 : Nat) < 65536 ∧
    ((⟨true, 1, 7⟩ : FilterEntry).valid = true → ∀ j : Fin 64, (running id).tables.filters[j].valid = true →
      (running id).tables.filters[j].code = (⟨true, 1, 7⟩ : FilterEntry).code → j = 0) ∧
    ((⟨127, 1, 0⟩ : RecipeEntry).InRange ∧ ∀ i, ((running id).slot i).references = true → ((running id).slot i).recipe ≠ some 1) ∧
    ((-32768 : Int) ≤ 32767 ∧ ∀ i r, ((running id).slot i).references = true → (running id).recipeOf i = some r →
      2 < r.first ∨ r.first + r.count ≤ 2) ∧
    ((1 : Fin 256) ≠ 0 ∧ ((running id).tote 7).state ≠ .full) ∧
    (((running id).modTote 7 fun t => { t with state := .opened }).tote 7).state = .opened ∧
    (running id).tables.rack.InRange := by
  refine ⟨fun _ => ⟨rfl, rfl, rfl⟩, by decide, by decide, ⟨by unfold RecipeEntry.InRange; decide, by decide⟩,
    ⟨by decide, ?_⟩, by decide, by decide, by unfold RackSettings.InRange; decide⟩
  intro i r _ h
  have key : ∀ i, (((running id).recipeOf i).all fun r => decide (2 < r.first ∨ r.first + r.count ≤ 2)) = true := by decide
  simpa [h] using key i

/-- The rack settings with every field at the top of its range. -/
def topRack : RackSettings where
  trunkType := 0xFFFF
  enables := 0
  budget := 8
  spinupWindow := 60
  spindownWait := 120
  recoveryMax := 15
  recoveryWindow := 120
  retestMax := 3
  hardLimit := 200
  tripTime := 600
  kp := 63
  ki := 63
  imax := 4096
  fanBase := 100
  fanBand := 40
  noShowWindow := 300
  ejectHold := 10

theorem witness_TableEntryRoundTrip :
    ((⟨65535, 0, true, false⟩ : ClassEntry).timeout < 65536 ∧ (⟨65535, 0, true, false⟩ : ClassEntry).slow < 65536) ∧
    ((⟨255, 0, 7⟩ : RecipeEntry).first < 256 ∧ (⟨255, 0, 7⟩ : RecipeEntry).count < 256) ∧
    (-32768 ≤ StepEntry.powerUp.setPoint ∧ StepEntry.powerUp.setPoint ≤ 32767 ∧ (stepOf .both 65535 65535 65535).dwell < 65536 ∧
      (stepOf .both 65535 65535 65535).limit < 65536 ∧ (stepOf .both 65535 65535 65535).silence < 65536 ∧
      StepEntry.powerUp.tolerance < 256 ∧ StepEntry.powerUp.ramp < 256) ∧
    (LimitSet.powerUp.wu < 256 ∧ LimitSet.powerUp.t1 < 65536 ∧ LimitSet.powerUp.vmin < 4294967296 ∧
      LimitSet.powerUp.cap < 65536 ∧ LimitSet.powerUp.bt < 256 ∧ LimitSet.powerUp.p < 65536) ∧
    topRack.InRange ∧ RackSettings.powerUp.InRange := by
  unfold RackSettings.InRange
  decide

/-- A manifest entry of slot 0 at position 1. -/
def held (placed : Bool) : ManifestEntry :=
  { position := 1, slot := 0, identity := none, disposition := some 7, reason := .noShow, density := none, retests := 0,
    recipe := some 0, testSeconds := 9, placed := placed }

/-- A part with one entry in the manifest of tote 7, which is OPEN. -/
def toted (placed : Bool) : Part := base.modTote 7 fun t => { t with state := .opened, manifest := [held placed] }

theorem witness_ReadsAnswer :
    (∀ slot code body, (asks (req slot code body) (toted true)).part.Head ⟨1, slot, 7, code, body⟩ []) ∧
    9 < (10 : Byte).toNat ∧ ((8 : Byte).toNat < 9 ∧ [8, 64, 16, 128, 8, 9, 8, 18, 1].getD (8 : Byte).toNat 0 ≤ (1 : Byte).toNat) ∧
    7 < (8 : Byte).toNat ∧ ((7 : Byte) = byte (7 : ToteId).val ∧ ((toted true).tote 7).manifest.length < (2 : Byte).toNat) ∧
    ((1 : Byte) ≠ 0 ∧ ((toted true).tote 7).manifest[(1 : Byte).toNat - 1]? = some (held true)) ∧
    (127 : Byte) = byte (127 : Fin 128).val ∧ 5 < (6 : Byte).toNat ∧ (5 : Byte).toNat < 6 ∧ 1 < (2 : Byte).toNat :=
  ⟨fun _ _ _ => ⟨rfl, rfl, rfl⟩, by decide⟩

/-- A part whose slot 0 is SEATED, with recipe 0 and a class-0 filter entry. -/
def seated : Part := (shelf (stepOf .server 0 0 0) .powerUp base).modSlot 0 (·.into .seated)

theorem witness_StartSlotAnswers :
    (∀ k, (asks (req 0 0x20 [k]) seated).part.Head ⟨1, 0, 7, 0x20, [k]⟩ []) ∧
    16 ≤ (16 : Byte).toNat ∧ ((15 : Byte).toNat < 16 ∧ (base.slot 0).state ≠ .seated) ∧ (seated.slot 0).state = .seated ∧
    (∃ c ∈ [made 3], c.forEntry = true ∧ c.slot = 0) ∧ (∀ c ∈ seated.trunk.completions, c.forEntry = true → c.slot ≠ 0) ∧
    (∀ j : Fin 64, base.tables.filters[j].valid = true → base.tables.filters[j].cls ≠ 0) ∧ seated.tables.recipes[15].count = 0 ∧
    (∃ j : Fin 64, seated.tables.filters[j].valid = true ∧ seated.tables.filters[j].cls = 0) ∧
    seated.tables.recipes[0].count ≠ 0 ∧
    (seated.NoGrantWaits ∧ seated.spinQueue = [] ∧ seated.spinCount < seated.tables.rack.budget ∧ seated.door.value = false) ∧
    ({ seated with spinCount := 4, spinQueue := [5] } : Part).NoGrantWaits :=
  ⟨fun _ => ⟨rfl, rfl, rfl⟩, by decide, by decide, by decide, ⟨made 3, by decide⟩, by decide, by decide, by decide,
    ⟨0, by decide⟩, by decide, ⟨Or.inl rfl, by decide⟩, Or.inr (Or.inl (by decide))⟩

/-- Slot 0 in its recipe's last step, of mode SERVER, with an entry outstanding. -/
def lastStep : Part :=
  inTest .condemned (fun s => { s with stepIndex := 1, outstanding := [entry 3 .done] })
    (shelf .powerUp (stepOf .server 0 0 0) base)

/-- Slot 0 in a step of mode BOTH with a dwell target of 2. -/
def bothStep (f : Slot → Slot) : Part := inTest .running f (shelf (stepOf .both 2 4 5) (stepOf .dwell 1 0 0) base)

theorem witness_StepDoneAnswers :
    (∀ k, (asks (req 0 0x21 [k]) lastStep).part.Head ⟨1, 0, 7, 0x21, [k]⟩ []) ∧
    (16 ≤ (16 : Byte).toNat ∧ (254 : Byte).toNat ≤ 254) ∧
    ((15 : Byte).toNat < 16 ∧ (base.slot 0).state ≠ .running ∧ (base.slot 0).state ≠ .condemned) ∧
    (((running id).slot 0).state = .running ∧ (1 : Byte).toNat ≠ ((running id).slot 0).stepIndex) ∧
    (∃ e, (inTest .running id (shelf (stepOf .dwell 1 0 0) .powerUp base)).currentStep 0 = some e ∧ e.advance = .dwell) ∧
    (∃ e, (bothStep fun s => { s with stepDone := true }).currentStep 0 = some e ∧ e.advance = .both) ∧
    (∃ e, (bothStep id).currentStep 0 = some e ∧ e.advance = .both ∧ ((bothStep id).slot 0).stepDone = false ∧
      ((bothStep id).slot 0).dwell < e.dwell) ∧
    (∃ e e', (running id).currentStep 0 = some e ∧ e.advance = .server ∧
      ((running id).slot 0).stepIndex + 1 < (running id).stepCount 0 ∧ (running id).stepAt 0 1 = some e' ∧ e'.dwell ≠ 0) ∧
    (∃ e, lastStep.currentStep 0 = some e ∧ e.advance = .server ∧ (lastStep.slot 0).state = .condemned ∧
      lastStep.stepCount 0 ≤ (lastStep.slot 0).stepIndex + 1 ∧ (lastStep.slot 0).outstanding ≠ []) :=
  ⟨fun _ => ⟨rfl, rfl, rfl⟩, by decide, by decide, by decide, ⟨_, rfl, by decide⟩, ⟨_, rfl, by decide⟩,
    ⟨_, rfl, by decide⟩, ⟨_, _, rfl, by decide, by decide, rfl, by decide⟩, ⟨_, rfl, by decide⟩⟩

theorem witness_AbortSlotAnswers :
    (∀ k, (asks (req 0 0x22 [k]) (running id)).part.Head ⟨1, 0, 7, 0x22, [k]⟩ []) ∧ 1 < (2 : Byte).toNat ∧
    (1 : Byte).toNat ≤ 1 ∧ (∀ x ∈ [SlotState.empty, .seated, .spindown, .toteWait, .unloadReady], ((s0 (·.into x)).slot 0).state = x) ∧
    ((inTest .powerWait id base).slot 0).state = .powerWait ∧
    ((running id).slot 0).state.powered = true ∧ (0 : SlotId) ∉ (running id).spinQueue :=
  ⟨fun _ => ⟨rfl, rfl, rfl⟩, by decide⟩

theorem witness_ServiceAnswers :
    (asks (req 255 0x23 (slotSetBytes 0xFFFFFF)) (running id)).part.Head ⟨1, 255, 7, 0x23, slotSetBytes 0xFFFFFF⟩ [] ∧
    0 < (running id).interval 0 := ⟨⟨rfl, rfl, rfl⟩, by decide⟩

theorem witness_ToteSwapAnswers :
    (∀ n p, p ∈ [toted true, toted false] → (asks (req 255 0x30 [n]) p).part.Head ⟨1, 255, 7, 0x30, [n]⟩ []) ∧
    7 < (8 : Byte).toNat ∧ (7 : Byte).toNat < 8 ∧ (∃ e ∈ ((toted false).tote 7).manifest, e.placed = false) ∧
    (∀ e ∈ ((toted true).tote 7).manifest, e.placed = true) ∧ 1 ≤ (toted true).tables.capacities[(7 : ToteId)] ∧
    ((toted true).tote 7).wait.Nodup := by
  refine ⟨?_, by decide, by decide, ⟨held false, by decide⟩, by decide, by decide, by decide⟩
  intro n p h
  rcases List.mem_cons.mp h with rfl | h
  · exact ⟨rfl, rfl, rfl⟩
  · rcases List.mem_cons.mp h with rfl | h
    · exact ⟨rfl, rfl, rfl⟩
    · exact absurd h (List.not_mem_nil)

theorem witness_ToteWithdrawAnswers :
    (asks (req 255 0x31 [7]) (toted true)).part.Head ⟨1, 255, 7, 0x31, [7]⟩ [] ∧ 7 < (8 : Byte).toNat ∧ (7 : Byte).toNat < 8 ∧
    (base.tote 7).state = .absent ∧ ((toted true).tote 7).state ≠ .absent ∧
    (∃ e ∈ ((toted false).tote 7).manifest, e.placed = false) ∧ (∀ e ∈ ((toted true).tote 7).manifest, e.placed = true) :=
  ⟨⟨rfl, rfl, rfl⟩, by decide, by decide, by decide, by decide, ⟨held false, by decide⟩, by decide⟩

theorem witness_TrafficResetAnswers :
    (asks (req 255 0x40 []) (inTest .draining id base)).part.Head ⟨1, 255, 7, 0x40, []⟩ [] ∧
    (∀ i, ((inTest .draining id base).slot i).state = .draining → ((inTest .draining id base).slot i).retry = false) ∧
    (sends .completion).trunk.tx = .sending .completion aFrame ∧ (∀ f, base.trunk.tx ≠ .sending .completion f) ∧
    ((s0 fun s => { s with presence := ⟨true, true, none⟩ }).slot 0).presence.value = true :=
  ⟨⟨rfl, rfl, rfl⟩, by decide, rfl, (fun _ h => nomatch h), by decide⟩

theorem witness_RackResetAnswers :
    (asks (req 255 0x41 []) (s0 fun s => { s with presence := ⟨true, true, none⟩ })).part.Head ⟨1, 255, 7, 0x41, []⟩ [] :=
  ⟨rfl, rfl, rfl⟩

/-! ### The upstream transmitter, time and steps -/

/-- A notice with a level. -/
def aNotice (level : Nat) : Notice := ⟨.doorChanged true, level, 0, false⟩

/-- A part whose transmitter is idle and may choose among these. -/
def offers (c : List Completion) (n : List Notice) (run : Nat) : Part :=
  { base with trunk := { base.trunk with completions := c, notices := n, runCount := run } }

theorem witness_TransmitterChooses :
    (State.reset.part.trunk.linkUp = false) ∧ ((sends .notice).trunk.linkUp = true ∧ (sends .notice).trunk.tx ≠ .idle) ∧
    (base.trunk.linkUp = true ∧ base.trunk.tx = .idle ∧ base.trunk.response = none) ∧
    (base.respond (okTo (req 255 0x40 []) false [])).trunk.response = some (okTo (req 255 0x40 []) false []) ∧
    (base.trunk.completions = [] ∧ base.trunk.notices = []) ∧
    ((offers [made 3] [] 8).trunk.completions = made 3 :: [] ∧ (offers [made 3] [] 8).trunk.notices = []) ∧
    ((offers [made 3] [aNotice 1] 7).trunk.notices ≠ [] ∧ (offers [made 3] [aNotice 1] 7).trunk.runCount ≠ 8) ∧
    ((offers [made 3] [aNotice 1, aNotice 2, aNotice 2] 8).trunk.runCount = 8 ∧
      (offers [made 3] [aNotice 1, aNotice 2, aNotice 2] 8).trunk.notices = [aNotice 1] ++ aNotice 2 :: [aNotice 2] ∧
      (∀ m ∈ [aNotice 1], m.level < (aNotice 2).level) ∧ (∀ m ∈ [aNotice 2], m.level ≤ (aNotice 2).level)) := by decide

/-- Slot 0 in DRAINING with its last entry's completion being sent. -/
def lastSent : Part :=
  inTest .draining (fun s => { s with outstanding := [entry 3 .done] })
    { sends .completion with trunk := { (sends .completion).trunk with completions := [made 3] } }

theorem witness_FrameSendEnds :
    base.trunk.tx = .idle ∧ (sends .response).trunk.tx = .sending .response aFrame ∧
    (lastSent.trunk.tx = .sending .completion aFrame ∧ lastSent.trunk.completions = made 3 :: [] ∧ (made 3).forEntry = true ∧
      (lastSent.slot 0).state = .draining ∧ (∀ e ∈ (lastSent.slot 0).outstanding, e.tag = (made 3).tag ∧ e.state = .done) ∧
      lastSent.tables.bins[((lastSent.slot 0).disposition.getD (lastSent.graded 0).disposition)].retest = none ∧
      0 < lastSent.tables.rack.spindownWait) ∧
    ((running id).slot 0).state ≠ .draining ∧ ({ made 3 with forEntry := false } : Completion).forEntry = false ∧
    ((sends .notice).trunk.tx = .sending .notice aFrame ∧ (sends .notice).trunk.lostCount = 0) ∧
    (0 < ({ base.trunk with lostCount := 1 } : TrunkPort).lostCount ∧
      (base.trunk.notices.filter fun n => !n.sending).length < 64) := by decide

theorem witness_TimeBaseTickCounts : ({ base with ms := 998 } : Part).ms < 999 ∧ 999 ≤ ({ base with ms := 999 } : Part).ms := by
  decide

/-- Slot 0 in a step of mode BOTH, with a 1 s tick to take. -/
def ticking (f : Slot → Slot) : Part := bothStep fun s => f { s with ticksDue := 1 }

theorem witness_SlotSecondTickCounts :
    (base.slot 0).ticksDue = 0 ∧ (0 < ((s0 fun s => { s with ticksDue := 1 }).slot 0).ticksDue ∧
      ((s0 fun s => { s with ticksDue := 1 }).slot 0).state ≠ .running ∧
      ((s0 fun s => { s with ticksDue := 1 }).slot 0).state ≠ .condemned) ∧
    (0 < ((ticking id).slot 0).ticksDue ∧ ((ticking id).slot 0).state = .running ∧
      (ticking id).currentStep 0 = some (stepOf .both 2 4 5) ∧ ((ticking id).slot 0).elapsed ≠ 4 ∧
      ¬ (stepOf .both 2 4 5).dwell ≤ ((ticking id).slot 0).dwell + 1) ∧
    ((stepOf .both 2 4 5).dwell ≤ ((ticking fun s => { s with dwell := 2, stepDone := true, elapsed := 3 }).slot 0).dwell ∧
      ((ticking fun s => { s with dwell := 2, stepDone := true, elapsed := 3 }).slot 0).stepDone = true ∧
      ((ticking fun s => { s with dwell := 2, stepDone := true, elapsed := 3 }).slot 0).stepIndex + 1 <
        (ticking fun s => { s with dwell := 2, stepDone := true, elapsed := 3 }).stepCount 0 ∧
      (ticking fun s => { s with dwell := 2, stepDone := true, elapsed := 3 }).stepAt 0 1 = some (stepOf .dwell 1 0 0) ∧
      (stepOf .dwell 1 0 0).dwell ≠ 0) ∧
    (((ticking id).modZone 0 fun z => { z with state := .regulating, temperature := some 80 }).door.value = false ∧
      ((ticking id).slot 0).stage1 = false ∧ (stepOf .both 2 4 5).tolerance = 0 ∧
      ((ticking id).slot 0).dwell < (stepOf .both 2 4 5).dwell) := by decide

theorem witness_StepTimeLimitForces :
    ((base.slot 0).state ≠ .running ∧ (base.slot 0).state ≠ .condemned) ∧
    ((ticking id).currentStep 0 = some (stepOf .both 2 4 5) ∧ ((ticking fun s => { s with elapsed := 3 }).slot 0).elapsed ≠ 4) ∧
    (((ticking fun s => { s with elapsed := 4 }).slot 0).state = .running ∧ (stepOf .both 2 4 5).limit ≠ 0 ∧
      ((ticking fun s => { s with elapsed := 4 }).slot 0).elapsed = (stepOf .both 2 4 5).limit ∧
      0 < ((ticking fun s => { s with elapsed := 4 }).slot 0).ticksDue ∧
      ((ticking fun s => { s with elapsed := 4 }).slot 0).stepIndex + 1 < (ticking fun s => { s with elapsed := 4 }).stepCount 0 ∧
      (ticking fun s => { s with elapsed := 4 }).stepAt 0 1 = some (stepOf .dwell 1 0 0)) := by decide

/-! ### Lines, power and lanes -/

/-- A line that has shown a level, opposite to its debounced one, for its whole window. -/
def turned (v : Bool) : Debounce := ⟨v, !v, dueTimer⟩

theorem witness_PresenceIsTimedAndSeats :
    ¬ (timerDue (base.slot 0).presence.timer = true) ∧
    (timerDue ((s0 fun s => { s with presence := turned true }).slot 0).presence.timer = true ∧
      ((s0 fun s => { s with presence := turned true }).slot 0).presence.raw = true ∧
      ((s0 fun s => { s with presence := turned true }).slot 0).presence.value = false) ∧
    ¬ (State.reset.part.loader.phase = .ready) ∧
    (base.loader.phase = .ready ∧ (base.slot 0).state = .empty ∧ base.tables.rack.enables[(0 : SlotId)] = true) := by decide

/-- Slot 0 in a state, with its drive pulled for the whole debounce. -/
def pulled (x : SlotState) : Part :=
  s0 fun s => { s.into x with presence := turned false, tote := some 7, position := some 1 }

theorem witness_PresenceLossEmpties :
    ¬ (timerDue (base.slot 0).presence.timer = true) ∧
    (∀ x ∈ [SlotState.empty, .seated, .powerWait, .spinup, .ident, .running, .condemned, .draining, .spindown, .toteWait, .unloadReady],
      ((pulled x).slot 0).state = x ∧ timerDue ((pulled x).slot 0).presence.timer = true ∧
      ((pulled x).slot 0).presence.raw = false ∧ ((pulled x).slot 0).presence.value = true ∧
      (0 : SlotId) ∉ (pulled x).spinQueue ∧ (pulled x).spinQueue = [] ∧ ((pulled x).slot 0).tote = some 7 ∧
      ((pulled x).slot 0).position = some 1) := by decide

/-- Slot 0 in a state, its eject hold due. -/
def pressed (x : SlotState) : Part := s0 fun s => { s.into x with hold := .timing, holdTimer := dueTimer, eject := turned true }

theorem witness_EjectButtonHolds :
    ¬ (timerDue (base.slot 0).eject.timer = true) ∧ ¬ ((base.slot 0).hold = .timing) ∧
    (∀ x ∈ [SlotState.empty, .seated, .spindown, .toteWait, .unloadReady, .spinup, .draining],
      ((pressed x).slot 0).state = x ∧ ((pressed x).slot 0).hold = .timing ∧ timerDue ((pressed x).slot 0).holdTimer = true ∧
      timerDue ((pressed x).slot 0).eject.timer = true ∧ ((pressed x).slot 0).eject.raw = true ∧
      ((pressed x).slot 0).eject.value = false ∧ (0 : SlotId) ∉ (pressed x).spinQueue) ∧
    ((pressed .spinup).slot 0).state.powered = true ∧ ((turned false).raw = false ∧ (turned false).value = true) := by decide

/-- A part whose zones are IDLE behind its closed door, and whose door line has turned. -/
def doorOpening : Part := { base with zones := mapV (fun z => { z with state := .idle }) base.zones, door := turned true }

/-- A part whose zones are HELD behind its open door, and whose door line has turned. -/
def doorClosing : Part := { State.reset.part with door := turned false }

theorem witness_DoorChangeJudgesZones :
    ¬ (timerDue base.door.timer = true) ∧
    ((∀ z, (doorOpening.zone z).state = (doorOpening.zone z).judged doorOpening.door.value) ∧ doorOpening.door.raw = true ∧
      timerDue doorOpening.door.timer = true ∧ doorOpening.door.raw ≠ doorOpening.door.value) ∧
    ((∀ z, (doorClosing.zone z).state = (doorClosing.zone z).judged doorClosing.door.value) ∧ doorClosing.door.raw = false ∧
      doorClosing.spinQueue = [] ∧ timerDue doorClosing.door.timer = true ∧ doorClosing.door.raw ≠ doorClosing.door.value) := by
  decide

/-- Slot 0 in SPINUP with its window due. -/
def spinning (p : Part) : Part := { p.modSlot 0 (fun s => { s.into .spinup with spinupTimer := dueTimer }) with spinCount := 1 }

theorem witness_SpinupWindowExpires :
    ¬ ((base.slot 0).state = .spinup) ∧
    (((spinning seated).slot 0).state = .spinup ∧ timerDue ((spinning seated).slot 0).spinupTimer = true ∧
      (0 : SlotId) ∉ (spinning seated).spinQueue ∧ (spinning seated).spinQueue = []) ∧
    ((spinning seated).tables.filters[(0 : Fin 64)].valid = true ∧ (spinning seated).tables.filters[(0 : Fin 64)].cls = 0 ∧
      (∀ m : Fin 64, m < 0 → (spinning seated).tables.filters[m].valid = true → (spinning seated).tables.filters[m].cls ≠ 0)) ∧
    ((∀ j : Fin 64, (spinning base).tables.filters[j].valid = true → (spinning base).tables.filters[j].cls ≠ 0) ∧
      0 < (spinning base).tables.rack.spindownWait) := by decide

/-- Slot 0 in IDENT with its probe sent and its no-show window due. -/
def probing : Part :=
  inTest .ident (fun s => { s with outstanding := [entry 255 (.issued ⟨0, 0⟩ none)], noShowTimer := dueTimer })
    (shelf (stepOf .server 0 0 0) .powerUp base)

theorem witness_ProbeOrNoShow :
    ¬ ((base.slot 0).state = .ident) ∧
    ((probing.slot 0).state = .ident ∧ timerDue (probing.slot 0).noShowTimer = true ∧ 0 < probing.tables.rack.spindownWait) ∧
    judgeUnit (completionUnit 255 1 0 0 (some anIdentity)) = .completion ⟨255, .corrected, 0, 0, some anIdentity⟩ ∧
    judgeUnit (completionUnit 255 0 0 0 none) = .completion ⟨255, .good, 0, 0, none⟩ ∧
    judgeUnit (completionUnit 255 2 0 0 (some anIdentity)) = .completion ⟨255, .uncorrectable, 0, 0, some anIdentity⟩ ∧
    (probing.slot 0).outstanding = [entry 255 (.issued ⟨0, 0⟩ none)] ∧
    (probing.stepAt 0 0 = some (stepOf .server 0 0 0) ∧ (stepOf .server 0 0 0).advance ≠ .dwell) := by decide

/-- Slot 0 in SPINDOWN with its wait due. -/
def cooling (retry : Bool) (x : ToteState) : Part :=
  ((base.modSlot 0 fun s =>
    { s.into .spindown with spindownTimer := dueTimer, retry := retry, disposition := some 6 }).modTote 6 fun t => { t with state := x })

theorem witness_SpindownWaitExpires :
    ¬ ((base.slot 0).state = .spindown) ∧
    (((cooling true .absent).slot 0).state = .spindown ∧ timerDue ((cooling true .absent).slot 0).spindownTimer = true ∧
      ((cooling true .absent).slot 0).retry = true ∧ (cooling true .absent).spinQueue = [] ∧
      (cooling true .absent).spinCount < (cooling true .absent).tables.rack.budget ∧ (cooling true .absent).door.value = false) ∧
    (({ cooling true .absent with spinCount := 4, spinQueue := [5] } : Part).tables.rack.budget ≤ 4) ∧
    (((cooling false .opened).slot 0).retry = false ∧
      ((cooling false .opened).tote ((cooling false .opened).tables.bins[((cooling false .opened).slot 0).disposition.getD 8]).tote).state = .opened) ∧
    ((cooling false .full).tote ((cooling false .full).tables.bins[((cooling false .full).slot 0).disposition.getD 8]).tote).state ≠ .opened := by
  decide

theorem witness_CurrentFaultEndsTest :
    (base.slot 0).power = false ∧
    (((spinning base).slot 0).power = true ∧ ((spinning base).slot 0).state.powered = true ∧
      (0 : SlotId) ∉ (spinning base).spinQueue ∧ (spinning base).spinQueue = []) := by decide

/-- Slot 0 in RUNNING with these entries, a lane state, and a transmitter. -/
def laned (l : List Entry) (x : LaneState) (tx : LaneTx) : Part :=
  running fun s => { s with outstanding := l, lane := x, laneTx := tx, recoveryTimer := dueTimer }

theorem witness_LaneSendsEnd :
    (∀ tag unit, (base.slot 0).laneTx ≠ .command tag unit) ∧ (base.slot 0).laneTx ≠ .resetLane ∧
    ((laned [entry 3 .queued, entry 4 .queued] .opened (.command 3 [1])).slot 0).laneTx = .command 3 [1] ∧
    ((laned [entry 4 .queued] .opened .resetLane).slot 0).laneTx = .resetLane ∧
    ((laned [] .recovering .resetLane).slot 0).lane = .recovering ∧
    (∃ before e after, [entry 3 .done, entry 4 .queued] = before ++ e :: after ∧ e.state = .queued ∧ ∀ x ∈ before, x.state ≠ .queued) :=
  ⟨(fun _ _ h => nomatch h), by decide, by decide, by decide, by decide, [entry 3 .done], entry 4 .queued, [], by decide⟩

theorem witness_LaneUnitsAreJudged :
    DriveStatus.ofByte 4 = some .driveError ∧ (255 : Nat) < 256 ∧ (65535 : Nat) < 65536 ∧
    (anIdentity.serial.length = 20 ∧ anIdentity.firmware.length = 8 ∧ anIdentity.capacity < 4294967296) ∧
    ((3 : Byte) ≠ 2 ∧ (3 : Byte) ≠ 4) ∧ 4 < (5 : Byte).toNat ∧ judgeUnit [3, 0, 3] = .dropped := by decide

theorem witness_OrphanIsDropped :
    judgeUnit (completionUnit 3 0 0 0 none) = .completion ⟨3, .good, 0, 0, none⟩ ∧
    (∀ e ∈ ((laned [entry 3 .done, entry 3 .queued] .opened .idle).slot 0).outstanding, e.tag = 3 → e.isIssued = false) := by decide

/-- A part whose limit set 0 has a cap. -/
def capped (cap : Nat) (p : Part) : Part := p.modTables fun t => { t with limits := t.limits.set 0 { LimitSet.powerUp with cap := cap } }

/-- An entry that waits for its answer, its command timer due. -/
def waiting : Entry := entry 3 (.issued ⟨0, 0⟩ dueTimer)

/-- What an UNCORRECTABLE answer to `waiting` hands to the Score Unit. -/
def bad : Handing :=
  { status := .drive .uncorrectable, delta := 0, coverage := 0, latency := 0, covers := false, scored := true, slow := 50, cls := 7, step := 0 }

theorem witness_CompletionIsMatched :
    judgeUnit (completionUnit 3 2 0 0 none) = .completion ⟨3, .uncorrectable, 0, 0, none⟩ ∧ (3 : Byte) ≠ 255 ∧
    (waiting.tag = 3 ∧ waiting.state = .issued ⟨0, 0⟩ dueTimer) ∧
    (∃ before after, ((laned [waiting] .opened .idle).slot 0).outstanding = before ++ waiting :: after ∧ ∀ y ∈ before, y.tag ≠ 3) ∧
    ((∃ x, (running id).stepAt 0 waiting.step = some x ∧ x.scoring = true) ∧ waiting.scored = true ∧
      ((running id).slot 0).acc.frozen = false) ∧
    ((running fun s => { s with acc := { s.acc with frozen := true } }).slot 0).acc.frozen = true ∧
    (((running id).slot 0).acc.count bad).u ≤ ((capped 1 (running id)).limitsOf 0).cap ∧
    ((capped 0 (running id)).limitsOf 0).cap < (((running id).slot 0).acc.count bad).u ∧
    (((running id).slot 0).state = .running ∧ (running id).lastIsCooldown 0 = false) :=
  ⟨by decide, by decide, by decide, ⟨[], [], by decide⟩, ⟨⟨_, rfl, by decide⟩, by decide⟩, by decide, by decide, by decide, by decide⟩

theorem witness_LaneRecoveryEnds :
    (base.slot 0).lane = .opened ∧
    (((laned [waiting] .recovering .idle).slot 0).lane = .recovering ∧ (∀ e ∈ [waiting], e.state ≠ .queued) ∧
      timerDue ((laned [waiting] .recovering .idle).slot 0).recoveryTimer = true ∧
      ((laned [waiting] .recovering .idle).slot 0).state ∈ [.running, .condemned, .draining]) ∧
    timerDue (base.slot 0).recoveryTimer = false := by decide

theorem witness_CommandTimesOut :
    (((laned [waiting, entry 4 .queued] .opened .idle).slot 0).state ∈ [.running, .condemned, .draining] ∧ (3 : Byte) ≠ 255 ∧
      waiting.tag = 3 ∧ waiting.state = .issued ⟨0, 0⟩ (some ⟨3, 4⟩) ∧ (⟨3, 4⟩ : Timer).due = true) ∧
    (∃ before after, ((laned [waiting, entry 4 .queued] .opened .idle).slot 0).outstanding = before ++ waiting :: after ∧
      ∀ y ∈ before, y.tag ≠ 3) ∧
    ((laned [waiting] .opened .idle).slot 0).acc.u ≤ ((laned [waiting] .opened .idle).limitsOf 0).cap ∧
    ((laned [waiting] .opened .idle).slot 0).recoveries < (laned [waiting] .opened .idle).tables.rack.recoveryMax ∧
    (running id).tables.rack.recoveryMax ≤ ((running fun s => { s with recoveries := 3 }).slot 0).recoveries :=
  ⟨by decide, ⟨[], [entry 4 .queued], by decide⟩, by decide, by decide, by decide⟩

/-! ### Supervision, zones, scoring and notices -/

theorem witness_SilenceExpiries :
    ((base.slot 0).state ≠ .running ∧ (base.slot 0).state ≠ .condemned) ∧
    (((running fun s => { s with silenceTimer := dueTimer }).slot 0).state = .running ∧
      timerDue ((running fun s => { s with silenceTimer := dueTimer }).slot 0).silenceTimer = true ∧
      ((running fun s => { s with silenceTimer := dueTimer }).slot 0).stage1 = false) ∧
    (timerDue ((running fun s => { s with silenceTimer := dueTimer, stage1 := true }).slot 0).silenceTimer = true ∧
      ((running fun s => { s with silenceTimer := dueTimer, stage1 := true }).slot 0).stage1 = true) := by decide

/-- Zone 5 in REGULATING, its read in progress with `n` ticks counted. -/
def reading (n : Nat) (f : Zone → Zone) : Part :=
  { (base.modZone 5 fun z => f { z with state := .regulating, request := some ⟨170, 23, 40⟩, target := some 40, rampAcc := 59 }) with
    busRead := some ⟨5, 0x4D, .temperature, ⟨49, n⟩⟩ }

theorem witness_SensorReadsEnd :
    base.busRead = none ∧ ((reading 49 id).busRead = some ⟨5, 0x4D, .temperature, ⟨49, 49⟩⟩ ∧ (⟨49, 49⟩ : Timer).due = false) ∧
    ((reading 50 id).busRead = some ⟨5, 0x4D, .temperature, ⟨49, 50⟩⟩ ∧ (⟨49, 50⟩ : Timer).due = true) ∧
    (((reading 49 id).zone 5).state = .regulating ∧ (reading 49 id).door.value = false ∧ ((reading 49 id).zone 5).sensorFault = false ∧
      ((reading 49 id).zone 5).alarm = .stopped ∧ ((reading 49 id).zone 5).request = some ⟨170, 23, 40⟩ ∧
      ((reading 49 id).zone 5).target = some 40 ∧ ((reading 49 id).zone 5).rampAcc < 60 ∧ (40 : Nat) ≤ 40 ∧
      -40 ≤ (BitVec.ofInt 16 (-40)).toInt ∧ (149 : BitVec 16).toInt ≤ 220 ∧
      (149 : BitVec 16).toInt < (reading 49 id).tables.rack.hardLimit) ∧
    (((reading 50 fun z => { z with invalidRun := 2 }).zone 5).invalidRun = 2 ∧
      ((reading 50 fun z => { z with invalidRun := 2 }).zone 5).sensorFault = false ∧
      ((reading 50 fun z => { z with invalidRun := 2 }).zone 5).alarm ≠ .expired) := by decide

/-- Zone 0 with its alarm timer due, and slot 0 in RUNNING. -/
def alarmed : Part := (running id).modZone 0 fun z => { z with alarm := .running ⟨120, 121⟩ }

theorem witness_AlarmTrips :
    (∀ tm, (base.zone 0).alarm = .running tm → tm.due = false) ∧
    ((alarmed.zone 0).alarm = .running ⟨120, 121⟩ ∧ (⟨120, 121⟩ : Timer).due = true) ∧
    ((0 : SlotId).val / 4 = (0 : ZoneId).val ∧ (alarmed.slot 0).state ∈ [.running, .condemned, .draining]) ∧
    ((4 : SlotId).val / 4 ≠ (0 : ZoneId).val) ∧ ((alarmed.slot 3).state ∉ [SlotState.running, .condemned, .draining]) ∧
    ((reading 49 id).busRead = some ⟨5, 0x4D, .temperature, ⟨49, 49⟩⟩ ∧ ((reading 49 id).zone 5).alarm = .stopped ∧ (220 : BitVec 16).toInt ≤ 220 ∧
      ((reading 49 id).tables.rack.hardLimit : Int) ≤ (150 : BitVec 16).toInt) :=
  ⟨(fun _ h => nomatch h), by decide, by decide, by decide, by decide, by decide⟩

theorem witness_RequestIsLowestOffer :
    base.formRequest 0 = none ∧
    (inTest .draining id (shelf { stepOf .server 0 0 0 with setPoint := 40 } .powerUp base)).formRequest 0 = some ⟨40, 0, 1⟩ := by
  decide

theorem witness_CountedCompletionAdds :
    bad.status = .drive .uncorrectable ∧ (∀ d, Status.timeout ≠ .drive d) ∧
    ({ Accum.zero with hist := Vector.replicate 8 65535 } : Accum).hist[bucketOf 0] = 65535 :=
  ⟨rfl, (fun _ h => nomatch h), by decide⟩

theorem witness_GradeIsComputed :
    Accum.zero.v = 0 ∧ ({ Accum.zero with v := 9 } : Accum).v < ({ LimitSet.powerUp with vmin := 10 } : LimitSet).vmin ∧
    (({ Accum.zero with v := 10 } : Accum).v ≠ 0 ∧
      ({ LimitSet.powerUp with vmin := 10 } : LimitSet).vmin ≤ ({ Accum.zero with v := 10 } : Accum).v) := by decide

/-- Notices of one level. -/
def flood (n level : Nat) : List Notice := List.replicate n (aNotice level)

theorem witness_NoticesAreQueued :
    (base.modTables fun t => { t with levels := t.levels.set 14 0 }).tables.levels[(NoticeBody.doorChanged true).index] = 0 ∧
    (base.tables.levels[(NoticeBody.doorChanged true).index] = 4 ∧ (flood 63 1).length < 64) ∧
    (64 ≤ (flood 64 4).length ∧ ∀ x ∈ flood 64 4, x.sending = false → 4 ≤ x.level) ∧
    (64 ≤ (flood 3 4 ++ aNotice 3 :: flood 60 3).length ∧ (aNotice 3).sending = false ∧ (aNotice 3).level < 4 ∧
      (∀ y ∈ flood 3 4, y.sending = false → (aNotice 3).level < y.level) ∧
      (∀ y ∈ flood 60 3, y.sending = false → (aNotice 3).level ≤ y.level)) := by decide

theorem witness_SharedStateIsChangedOnlyBy :
    exec .linkUp (st base) = .next ((st base).put (base.modTrunk TrunkPort.up)) ∧
    (∀ a b d e, Instr.linkUp ≠ .powerOn a b d e) ∧ (∀ r, takes .linkUp r = false) ∧ Instr.linkUp ≠ .loadEntry ∧
    (∀ l, Instr.linkUp ≠ .configImageLoadEnd l) :=
  ⟨rfl, (fun _ _ _ _ h => nomatch h), (fun _ => rfl), by decide, (fun _ h => nomatch h)⟩

/-- The invariants of the queues, on a part with one slot in each queue. -/
def queued : Part :=
  { (((base.modSlot 5 fun s => s.into .powerWait).modSlot 6 fun s => s.into .spinup).modSlot 7 fun s =>
      { s.into .toteWait with tote := some 3 }).modTote 3 fun t => { t with wait := [7] } with
    spinQueue := [5]
    spinCount := 1
    door := ⟨true, true, none⟩ }

theorem queued_sound : queued.QueuesSound := by
  unfold Part.QueuesSound
  decide

theorem queued_judged : queued.ZonesJudged := by
  unfold Part.ZonesJudged
  decide

theorem witness_OtherSlotsAreKept :
    slotOf (.laneReady 0) = some 0 ∧ queued.ZonesJudged ∧ queued.QueuesSound ∧
    exec (.laneReady 0) (st queued) = .next ((st queued).put queued) ∧ ((5 : SlotId) ≠ 0 ∧ (6 : SlotId) ∉ queued.spinQueue) :=
  ⟨rfl, queued_judged, queued_sound, rfl, by decide⟩

/-- A command is waiting. -/
def upNext (p : Part) : State := ⟨[.linkUp], p⟩

theorem witness_StepKeeps :
    (queued.Bounded ∧ queued.Dressed ∧ queued.ZonesJudged ∧ queued.QueuesSound ∧ queued.NoGrantWaits ∧ queued.tables.InRange) ∧
    step (upNext queued) = .next (st (queued.modTrunk TrunkPort.up)) := by
  refine ⟨⟨?_, ?_, queued_judged, queued_sound, Or.inr (Or.inr rfl), ?_⟩, rfl⟩
  · unfold Part.Bounded Slot.Counts Accum.InRange
    decide
  · unfold Part.Dressed Slot.Dressed
    decide
  · unfold TableStore.InRange ClassEntry.InRange RecipeEntry.InRange StepEntry.InRange LimitSet.InRange RackSettings.InRange
    decide

/-- Zone 3 REGULATING with a target and an integral, its read in progress (section 8.5). -/
def zone3 (target integral : Int) : State :=
  st { (base.modZone 3 fun z => { z with state := .regulating, request := some ⟨target, 12, 40⟩, target := some target, integral := integral }) with
    busRead := some ⟨3, 0x4B, .temperature, ⟨49, 7⟩⟩ }

/-! ### The hypotheses of single clauses, at their boundaries -/

/-- The part with every zone IDLE, as it is judged with the door closed and no request. -/
def calm (p : Part) : Part := { p with zones := mapV (fun z => { z with state := .idle }) p.zones }

/-- The part with its door closed, the spin-up budget used up, and a slot waiting for a grant, one spinning up and one waiting for a place in tote 3. -/
def crowded : Part := calm ({ queued with door := ⟨false, false, none⟩ }.modTables fun t => { t with rack := { t.rack with budget := 1 } })

theorem crowded_sound : crowded.QueuesSound := by
  unfold Part.QueuesSound
  decide

/-- The part with tote 3 FULL of one entry. -/
def brimming : Part := crowded.modTote 3 fun t => { t with state := .full, manifest := [held true] }

/-- Rack settings outside their ranges, which disable no slot of `crowded` but SEATED and EMPTY ones. -/
def wildRack (budget : Nat) : RackSettings := { topRack with enables := 0xE0, budget := budget, hardLimit := 65535, ejectHold := 0 }

theorem witness_LoadEntryStores_limit :
    ({ LimitSet.powerUp with bt := 255, p := 65535 } : LimitSet).Fits ∧
    (∀ i r, ((running id).slot i).references = true → (running id).recipeOf i = some r → r.limit ≠ 1) := by
  refine ⟨by unfold LimitSet.Fits; decide, fun i r _ h => ?_⟩
  have key : ∀ i, (((running id).recipeOf i).all fun r => decide (r.limit ≠ 1)) = true := by decide
  simpa [h] using key i

theorem witness_LoadEntryStores_totes :
    ((brimming.tote 3).state = .full ∧ brimming.QueuesSound) ∧ (brimming.tote 3).manifest.length = (1 : Fin 256).val ∧
    ((60 : Fin 256) ≠ 0 ∧ (61 : Fin 256) ≠ 0) ∧
    (((toted true).tote 7).state = .opened ∧ max ((toted true).tote 7).manifest.length (min 60 (1 : Fin 256).val) = 1) := by
  refine ⟨⟨by decide, ?_⟩, by decide⟩
  unfold Part.QueuesSound
  decide

theorem witness_LoadEntryStores_rack :
    ((wildRack 255).Fits ∧ 0x0600 ≤ (wildRack 255).trunkType.toNat ∧ crowded.QueuesSound ∧
      ∀ i : SlotId, crowded.tables.rack.enables[i] = true → (wildRack 255).enables[i] = false →
        (crowded.slot i).state = .empty ∨ (crowded.slot i).state = .seated) ∧
    (crowded.tables.rack.budget < max 1 (min 8 (wildRack 255).budget) ∧ max 1 (min 8 (wildRack 0).budget) ≤ crowded.tables.rack.budget) := by
  refine ⟨⟨by unfold RackSettings.Fits; decide, by decide, crowded_sound, by decide⟩, by decide⟩

theorem witness_ReadsAnswer_indices :
    ((7 : Byte) = byte (7 : Fin 8).val ∧ (63 : Byte) = byte (63 : Fin 64).val ∧ (15 : Byte) = byte (15 : Fin 16).val ∧
      (8 : Byte) = byte (8 : Fin 9).val ∧ (17 : Byte) = byte (17 : Fin 18).val) ∧
    (4 : Byte).toNat * 256 + (0 : Byte).toNat = 1024 ∧ 1024 < (4 : Byte).toNat * 256 + (1 : Byte).toNat := by decide

theorem witness_StepDoneAnswers_ends :
    (∃ e, (bothStep fun s => { s with dwell := 2 }).currentStep 0 = some e ∧ e.advance = .both ∧
      ((bothStep fun s => { s with dwell := 2 }).slot 0).stepDone = false ∧
      e.dwell ≤ ((bothStep fun s => { s with dwell := 2 }).slot 0).dwell) ∧
    ((inTest .running (fun s => { s with stepIndex := 1 }) (shelf .powerUp (stepOf .server 0 0 0) base)).stepCount 0 ≤ 1 + 1 ∧
      ((inTest .running (fun s => { s with stepIndex := 1 }) (shelf .powerUp (stepOf .server 0 0 0) base)).slot 0).outstanding = []) ∧
    ((running id).landing 0 1 = some 1 ∧ (inTest .running id (shelf (stepOf .server 0 0 0) (stepOf .dwell 0 0 0) base)).landing 0 1 = none) :=
  ⟨⟨_, rfl, by decide⟩, by decide⟩

/-- Slot 0 in DRAINING with an entry, and slot 1, whose drive is absent, with a COMMAND being sent. -/
def drainingOne : Part :=
  calm ((inTest .draining (fun s => { s with outstanding := [entry 3 .done] }) base).modSlot 1 fun s => { s with laneTx := .command 3 [1] })

theorem witness_TrafficResetAnswers_judged :
    (asks (req 255 0x40 []) drainingOne).part.Head ⟨1, 255, 7, 0x40, []⟩ [] ∧ drainingOne.ZonesJudged ∧
    (∀ i, (drainingOne.slot i).state = .draining → (drainingOne.slot i).retry = false) ∧
    0 < drainingOne.tables.rack.spindownWait ∧
    ((drainingOne.slot 1).presence.value = false ∧ (drainingOne.slot 1).laneTx = .command 3 [1]) := by
  refine ⟨⟨rfl, rfl, rfl⟩, ?_, by decide, by decide, by decide⟩
  unfold Part.ZonesJudged
  decide

/-- Slot 6, spinning up in `crowded`, with its drive pulled for the whole debounce. -/
def pulledSix : Part := crowded.modSlot 6 fun s => { s with presence := turned false }

theorem witness_PresenceLossEmpties_grant :
    (timerDue (pulledSix.slot 6).presence.timer = true ∧ (pulledSix.slot 6).presence.raw = false ∧
      (pulledSix.slot 6).presence.value = true ∧ (pulledSix.slot 6).state = .spinup ∧ (6 : SlotId) ∉ pulledSix.spinQueue) ∧
    pulledSix.ZonesJudged ∧ pulledSix.QueuesSound := by
  refine ⟨by decide, ?_, ?_⟩
  · unfold Part.ZonesJudged
    decide
  · unfold Part.QueuesSound
    decide

/-- `lastSent` with a retest recipe for every bin, and a spin-down wait. -/
def retesting (recipe : Fin 16) (wait : Nat) : Part :=
  (shelf (stepOf .server 0 0 0) .powerUp lastSent).modTables fun t =>
    { t with bins := mapV (fun b => { b with retest := some recipe }) t.bins, rack := { t.rack with spindownWait := wait } }

theorem witness_FrameSendEnds_retest :
    ((retesting 0 20).tables.bins[((retesting 0 20).graded 0).disposition].retest.filter fun r =>
        (retesting 0 20).tables.recipes[r].count ≠ 0) = some 0 ∧
      ((retesting 0 20).graded 0).disposition ≠ 8 ∧ ((retesting 0 20).slot 0).retests < (retesting 0 20).tables.rack.retestMax ∧
    ((retesting 1 20).tables.bins[((retesting 1 20).graded 0).disposition].retest.filter fun r =>
        (retesting 1 20).tables.recipes[r].count ≠ 0) = none ∧
    ((retesting 1 0).tables.rack.spindownWait = 0 ∧ ((retesting 1 0).slot 0).retry = false) ∧
    (0 < ({ base.trunk with lostCount := 65535 } : TrunkPort).lostCount ∧
      64 ≤ ((flood 64 4).filter fun n => !n.sending).length) := by decide

theorem witness_TimeBaseTickCounts_timer : (1 : Nat) ≤ 1 ∧ (Timer.tick^[1] (Timer.start 1)).due = false ∧
    (Timer.tick^[2] (Timer.start 1)).due = true := by decide

/-- Slot 0 in its recipe's last step, of mode DWELL with a target of 1, with a 1 s tick to take. -/
def lastTick (x : SlotState) : Part :=
  inTest x (fun s => { s with stepIndex := 1, dwell := 1, ticksDue := 1 }) (shelf .powerUp (stepOf .dwell 1 0 0) base)

theorem witness_SlotSecondTickCounts_ends : ∀ x ∈ [SlotState.running, .condemned],
    ((lastTick x).slot 0).state = x ∧ (lastTick x).currentStep 0 = some (stepOf .dwell 1 0 0) ∧ (stepOf .dwell 1 0 0).limit = 0 ∧
    0 < ((lastTick x).slot 0).ticksDue ∧ (stepOf .dwell 1 0 0).dwell ≤ ((lastTick x).slot 0).dwell ∧
    (lastTick x).stepCount 0 ≤ ((lastTick x).slot 0).stepIndex + 1 := by decide

/-- Slot 0 at the time limit of its recipe's last step, which takes a dwell of 2. -/
def lateTick (x : SlotState) (dwell : Nat) : Part :=
  inTest x (fun s => { s with stepIndex := 1, elapsed := 4, dwell := dwell, ticksDue := 1 }) (shelf .powerUp (stepOf .both 2 4 0) base)

theorem witness_StepTimeLimitForces_ends : ∀ x ∈ [SlotState.running, .condemned], ∀ d ∈ [1, 2],
    ((lateTick x d).slot 0).state = x ∧ (lateTick x d).currentStep 0 = some (stepOf .both 2 4 0) ∧
    ((lateTick x d).slot 0).elapsed = (stepOf .both 2 4 0).limit ∧ 0 < ((lateTick x d).slot 0).ticksDue ∧
    ((lastTick x).currentStep 0 = some (stepOf .dwell 1 0 0) ∧ (stepOf .dwell 1 0 0).limit = 0) := by decide

theorem witness_EjectButtonHolds_states :
    (∀ x ∈ [SlotState.powerWait, .ident, .running, .condemned],
      ((pressed x).slot 0).state = x ∧ ((pressed x).slot 0).hold = .timing ∧ timerDue ((pressed x).slot 0).holdTimer = true) ∧
    (∀ x ∈ [SlotState.ident, .running, .condemned], ((pressed x).slot 0).state.powered = true ∧ (0 : SlotId) ∉ (pressed x).spinQueue) := by
  decide

/-- The part with zone 0 in a state, with a request and a temperature. -/
def warm (x : ZoneState) (p : Part) : Part :=
  p.modZone 0 fun z => { z with state := x, request := some ⟨170, 3, 40⟩, temperature := some 40, target := some 40 }

/-- `queued`, whose door line has shown CLOSED for its whole window. -/
def shutting : Part := { queued with door := turned false }

theorem witness_DoorChangeJudgesZones_zones :
    ((∀ z, ((warm .regulating doorOpening).zone z).state =
        ((warm .regulating doorOpening).zone z).judged (warm .regulating doorOpening).door.value) ∧
      ((warm .regulating doorOpening).zone 0).state = .regulating ∧ (warm .regulating doorOpening).door.raw = true) ∧
    ((∀ z, ((warm .held doorClosing).zone z).state =
        ((warm .held doorClosing).zone z).judged (warm .held doorClosing).door.value) ∧
      ((warm .held doorClosing).zone 0).state = .held ∧ (warm .held doorClosing).door.raw = false) ∧
    (shutting.QueuesSound ∧ shutting.ZonesJudged ∧ shutting.spinQueue ≠ [] ∧ timerDue shutting.door.timer = true ∧
      shutting.door.raw ≠ shutting.door.value) := by
  refine ⟨by decide, by decide, ?_, ?_, by decide⟩
  · unfold Part.QueuesSound
    decide
  · unfold Part.ZonesJudged
    decide

/-- The part with a spin-down wait of 0. -/
def atOnce (p : Part) : Part := p.modTables fun t => { t with rack := { t.rack with spindownWait := 0 } }

/-- `crowded` with the window of slot 6 due. -/
def spunSix : Part := crowded.modSlot 6 fun s => { s with spinupTimer := dueTimer }

theorem witness_SpinupWindowExpires_grant :
    ((spunSix.slot 6).state = .spinup ∧ timerDue (spunSix.slot 6).spinupTimer = true ∧ (6 : SlotId) ∉ spunSix.spinQueue ∧
      spunSix.spinQueue ≠ [] ∧ (∀ j : Fin 64, spunSix.tables.filters[j].valid = true → spunSix.tables.filters[j].cls ≠ 0)) ∧
    spunSix.QueuesSound ∧ ((atOnce spunSix).QueuesSound ∧ (atOnce spunSix).tables.rack.spindownWait = 0) ∧
    (shelf .powerUp .powerUp spunSix).QueuesSound := by
  refine ⟨by decide, ?_, ⟨?_, by decide⟩, ?_⟩ <;>
  · unfold Part.QueuesSound
    decide

theorem witness_ProbeOrNoShow_retry :
    ∀ r ∈ [true, false],
      ((probing.modSlot 0 fun s => { s with retry := r }).slot 0).state = .ident ∧
      ((atOnce (probing.modSlot 0 fun s => { s with retry := r })).slot 0).retry = r ∧
      timerDue ((atOnce (probing.modSlot 0 fun s => { s with retry := r })).slot 0).noShowTimer = true ∧
      (atOnce (probing.modSlot 0 fun s => { s with retry := r })).tables.rack.spindownWait = 0 := by decide

theorem witness_ProbeOrNoShow_queues : (atOnce probing).QueuesSound ∧ probing.landing 0 0 = some 0 := by
  refine ⟨?_, by decide⟩
  unfold Part.QueuesSound
  decide

/-- `cooling` with a capacity in every tote. -/
def lastPlace (cap : Nat) : Part := (cooling false .opened).modTables fun t => { t with capacities := mapV (fun _ => cap) t.capacities }

theorem witness_SpindownWaitExpires_last_place :
    (((lastPlace 1).slot 0).state = .spindown ∧ timerDue ((lastPlace 1).slot 0).spindownTimer = true ∧
      ((lastPlace 1).slot 0).retry = false ∧ ((lastPlace 1).tote 6).state = .opened ∧
      ((lastPlace 1).tote 6).manifest.length + 1 = (lastPlace 1).tables.capacities[(6 : ToteId)]) ∧
    ((lastPlace 60).tote 6).manifest.length + 1 ≠ (lastPlace 60).tables.capacities[(6 : ToteId)] ∧
    ((lastPlace 1).tables.bins[((lastPlace 1).slot 0).disposition.getD 8]).tote = 6 := by decide

/-- Slot 0 in a state in step 0, with `waiting` outstanding and a cap of 0, in a recipe whose last step is a cooldown step. -/
def condemnable (x : SlotState) (dwell : Nat) : Part :=
  capped 0 (inTest x (fun s => { s with outstanding := [waiting] })
    (shelf (stepOf .server 0 0 5) { stepOf .dwell dwell 0 0 with cooldown := true } base))

theorem witness_CompletionIsMatched_condemns :
    (∀ x ∈ [SlotState.running, .condemned, .draining], ∀ d ∈ [0, 1],
      ((condemnable x d).slot 0).state = x ∧ ((condemnable x d).limitsOf 0).cap < (((condemnable x d).slot 0).acc.count bad).u ∧
      ((condemnable x d).slot 0).acc.frozen = false ∧ ((condemnable x d).slot 0).stepIndex ≠ (condemnable x d).stepCount 0 - 1 ∧
      (condemnable x d).lastIsCooldown 0 = true) ∧
    ((condemnable .running 1).zeroDwell 0 1 = false ∧ (condemnable .running 0).zeroDwell 0 1 = true) := by decide

theorem witness_LaneRecoveryEnds_queued :
    ((laned [entry 3 .queued] .recovering .idle).slot 0).lane = .recovering ∧
    ((laned [entry 3 .queued] .recovering .idle).slot 0).takesUp = .command 3 (commandUnit 3 2 []) ∧
    ((laned [entry 3 .queued] .recovering .resetLane).slot 0).takesUp = .resetLane := by decide

/-- Slot 0 in DRAINING after its condemnation: its record frozen with U above the cap. -/
def condemnedLate : Part :=
  condemnable .draining 1 |>.modSlot 0 fun s => { s with acc := { s.acc with u := 1, frozen := true } }

theorem witness_CommandTimesOut_frozen :
    (condemnedLate.slot 0).state ∈ [.running, .condemned, .draining] ∧ (condemnedLate.slot 0).acc.frozen = true ∧
    (condemnedLate.limitsOf 0).cap < (condemnedLate.slot 0).acc.u ∧
    (∃ before after, (condemnedLate.slot 0).outstanding = before ++ waiting :: after ∧ ∀ y ∈ before, y.tag ≠ 3) :=
  ⟨by decide, by decide, by decide, [], [], by decide⟩

theorem witness_SilenceExpiries_condemned : ∀ b ∈ [true, false],
    ((inTest .condemned (fun s => { s with silenceTimer := dueTimer, stage1 := b }) base).slot 0).state = .condemned ∧
    timerDue ((inTest .condemned (fun s => { s with silenceTimer := dueTimer, stage1 := b }) base).slot 0).silenceTimer = true ∧
    ((inTest .condemned (fun s => { s with silenceTimer := dueTimer, stage1 := b }) base).slot 0).stage1 = b := by decide

theorem witness_SensorReadsEnd_samples :
    ((reading 0 id).busRead = some ⟨5, 0x4D, .temperature, ⟨49, 0⟩⟩ ∧ (zone3 110 0).part.busRead = some ⟨3, 0x4B, .temperature, ⟨49, 7⟩⟩) ∧
    (-40 ≤ (BitVec.ofInt 16 (-40)).toInt ∧ (220 : BitVec 16).toInt ≤ 220) ∧
    (¬ (-40 ≤ (BitVec.ofInt 16 (-41)).toInt) ∧ ¬ ((221 : BitVec 16).toInt ≤ 220) ∧ ∀ v, SensorAnswer.noAnswer ≠ .value v) :=
  ⟨by decide, by decide, by decide, by decide, fun _ h => nomatch h⟩

/-- Zone 0 with a read in progress and its alarm timer in a state, and slot 0 in RUNNING. -/
def alarmRead (x : AlarmTimer) : Part :=
  { (running id).modZone 0 (fun z => { z with alarm := x }) with busRead := some ⟨0, 0x48, .temperature, ⟨49, 7⟩⟩ }

theorem witness_AlarmTrips_samples :
    ((alarmRead .expired).busRead = some ⟨0, 0x48, .temperature, ⟨49, 7⟩⟩ ∧ ((alarmRead .expired).zone 0).alarm ≠ .stopped ∧
      ((alarmRead (.running ⟨120, 3⟩)).zone 0).alarm ≠ .stopped ∧
      (145 : BitVec 16).toInt < (alarmRead .expired).tables.rack.hardLimit - 4) ∧
    (((alarmRead .expired).zone 0).alarm = .expired ∧ ((alarmRead .expired).tables.rack.hardLimit : Int) - 4 ≤ (146 : BitVec 16).toInt ∧
      ((alarmRead .expired).slot 0).state ∈ [.running, .condemned, .draining]) := by decide

/-- A part with a slot in RUNNING whose list holds a DONE entry, its completion queued, and a QUEUED one being sent; and a FULL tote. -/
def busyPart : Part :=
  (((laned [entry 3 .done, entry 4 .queued] .opened (.command 4 [1])).modTote 7 fun t =>
    { t with state := .full, manifest := [held true], wait := [] }).modTables fun t => { t with capacities := t.capacities.set 7 1 }).modTrunk
      fun t => { t with completions := [made 3] }

theorem busyPart_lists : busyPart.ListsSound ∧ busyPart.TotesSound := by
  refine ⟨⟨fun i => ⟨?_, ?_, ?_, ?_, ?_, ?_, fun tag unit h => ?_, ?_, ?_, ?_⟩, by decide⟩, fun t => ⟨?_, ?_, ?_⟩⟩
  case refine_7 =>
    have key : ∀ i, (busyPart.slot i).laneTx ≠ .idle → i = 0 ∧ (busyPart.slot i).laneTx = .command 4 [1] := by decide
    obtain ⟨rfl, k⟩ := key i (by rw [h]; exact nofun)
    injection k.symm.trans h with h4
    exact ⟨entry 4 .queued, by decide, h4, rfl⟩
  case refine_13 => split <;> rename_i h <;> revert h <;> revert t <;> decide
  all_goals first | (revert i; decide) | (revert t; decide)

theorem witness_StepKeeps_lists : busyPart.QueuesSound ∧ busyPart.ListsSound ∧ busyPart.tables.InRange ∧ busyPart.TotesSound ∧
    step (upNext busyPart) = .next (st (busyPart.modTrunk TrunkPort.up)) := by
  refine ⟨?_, busyPart_lists.1, ?_, busyPart_lists.2, rfl⟩
  · unfold Part.QueuesSound
    decide
  · unfold TableStore.InRange ClassEntry.InRange RecipeEntry.InRange StepEntry.InRange LimitSet.InRange RackSettings.InRange
    decide

theorem witness_GeneralChecksInOrder_other_row :
    takes .readZone (req 255 0x11 []) = true ∧ (asks (req 0 0x10 []) base).part.trunk.requests = req 0 0x10 [] :: [] ∧
    takes .readZone (req 0 0x10 []) = false ∧ exec .readZone (asks (req 0 0x10 []) base) = .next (asks (req 0 0x10 []) base) :=
  ⟨by decide, rfl, by decide, rfl⟩

theorem witness_ImageLoadEnds_seating :
    State.reset.part.loader.phase = .loading ∧ State.reset.part.loader.failedRead = none ∧ State.reset.part.spinQueue = [] ∧
    State.reset.part.QueuesSound ∧ (∀ i, (State.reset.part.slot i).state = .empty) := by
  refine ⟨rfl, rfl, rfl, ?_, by decide⟩
  unfold Part.QueuesSound
  decide

theorem witness_LaneUnitsAreJudged_malformed :
    (([4, 0] : List Byte).length < 3 ∧ field [4, 0, 5] 1 2 ≠ laneSum [4]) ∧ ([0] : List Byte) ≠ [] ∧
    ([3, 0, 0, 0, 0] : List Byte).length < 6 ∧ 1 < (2 : Byte).toNat ∧ (zeros 31).length ≠ 32 ∧ (zeros 33).length ≠ 32 := by decide

/-! ### Worked examples of the spec, and single commands -/

/-- The limit set of section 6.7. -/
def limits67 : LimitSet where
  wu := 200
  wr := 40
  wc := 1
  wf := 60
  ws := 2
  t1 := 20
  t2 := 60
  t3 := 150
  t4 := 400
  t5 := 1000
  t6 := 3000
  vmin := 1000000
  cap := 65535
  bt := 5
  p := 1

/-- The accumulator record of section 6.7, with a coverage. -/
def acc67 (v : Nat) : Accum := ⟨v, 0, 3, 120, 1, 14, #v[49960, 0, 0, 0, 0, 40, 0, 0], false⟩

theorem test_grade_of_section_6_7 : computeGrade limits67 (acc67 4000000) none .none 1 = ⟨3, .none, some 85⟩ := by decide +kernel

theorem test_grades_of_section_6_8 :
    computeGrade limits67 (acc67 0) none .none 1 = ⟨7, .coverage, none⟩ ∧
    computeGrade limits67 (acc67 999999) none .none 1 = ⟨7, .coverage, none⟩ ∧
    computeGrade limits67 (acc67 1000000) none .none 1 = ⟨4, .none, some 343⟩ ∧
    computeGrade { limits67 with wu := 255, wr := 255, wc := 255, wf := 255, ws := 255, vmin := 0 }
      ⟨1, 65535, 65535, 65535, 65535, 65535, (acc67 0).hist, false⟩ none .none 0 = ⟨6, .none, some 65535⟩ ∧
    computeGrade { limits67 with bt := 0, p := 999 } (acc67 4000000) none .none 0 = ⟨3, .none, some 85⟩ ∧
    computeGrade limits67 (acc67 4000000) (some 7) .condemnedUncorrectable 0 = ⟨7, .condemnedUncorrectable, none⟩ := by decide +kernel

theorem test_histogram_of_section_5_12 :
    histAdd (bucketOf 5) #v[4000, 30001, 65535, 12000, 901, 77, 12, 3] = #v[2000, 15000, 32768, 6000, 450, 38, 6, 1] ∧
    histAdd (bucketOf 200) #v[4000, 30001, 65535, 12000, 901, 77, 12, 3] = #v[4000, 30001, 65535, 12000, 901, 77, 12, 4] := by
  decide

/-- The part after a command. -/
def after (c : Instr) (s : State) : Part :=
  match exec c s with
  | .next t => t.part
  | .fault _ => s.part
  | .refused _ => s.part

theorem test_control_samples_of_section_8_5 :
    (((after (.sensorSample (.value 104)) (zone3 110 300)).zone 3).duty = 167 ∧
      ((after (.sensorSample (.value 104)) (zone3 110 300)).zone 3).integral = 306) ∧
    (((after (.sensorSample (.value 100)) (zone3 140 1500)).zone 3).duty = 255 ∧
      ((after (.sensorSample (.value 100)) (zone3 140 1500)).zone 3).integral = 1500) ∧
    (((after (.sensorSample (.value 118)) (zone3 110 200)).zone 3).duty = 0 ∧
      ((after (.sensorSample (.value 118)) (zone3 110 200)).zone 3).fan = 100) := by decide

theorem test_start_slot_is_granted : ((after .startSlot (asks (req 0 0x20 [0]) seated)).slot 0).state = .spinup ∧
    ((after .startSlot (asks (req 0 0x20 [0]) seated)).slot 0).power = true := by decide

theorem test_probe_answer_starts_the_recipe :
    ((after (.laneCompletion 0 (completionUnit 255 0 0 0 (some anIdentity))) (st probing)).slot 0).state = .running := by decide

theorem test_probe_without_identity_is_a_no_show :
    ((after (.laneCompletion 0 (completionUnit 255 0 0 0 none)) (st probing)).slot 0).state = .spindown ∧
    ((after (.laneCompletion 0 (completionUnit 255 0 0 0 none)) (st probing)).slot 0).retry = true := by decide

theorem test_uncorrectable_above_the_cap_condemns :
    ((after (.laneCompletion 0 (completionUnit 3 2 0 0 none)) (st (capped 0 (laned [waiting] .opened .idle)))).slot 0).reason =
      .condemnedUncorrectable ∧
    ((after (.laneCompletion 0 (completionUnit 3 2 0 0 none)) (st (capped 0 (laned [waiting] .opened .idle)))).slot 0).state =
      .draining := by decide

theorem test_current_fault_ends_the_test :
    ((after (.currentFault 0) (st (running id))).slot 0).reason = .powerFault ∧
    ((after (.currentFault 0) (st (running id))).slot 0).state = .spindown := by decide

theorem test_spindown_wait_reserves_a_place :
    ((after (.spindownWaitExpiry 0) (st (cooling false .opened))).slot 0).state = .unloadReady ∧
    ((after (.spindownWaitExpiry 0) (st (cooling false .opened))).slot 0).position = some 1 := by decide

theorem test_end_of_draining_grades :
    ((after .frameSendEnd (st lastSent)).slot 0).state = .spindown ∧ ((after .frameSendEnd (st lastSent)).slot 0).disposition = some 7 ∧
    ((after .frameSendEnd (st lastSent)).slot 0).reason = .coverage := by decide

theorem test_condemned_slot_goes_past_a_cooldown_step_of_no_dwell :
    ((after (.laneCompletion 0 (completionUnit 3 2 0 0 none)) (st (condemnable .running 0))).slot 0).state = .draining ∧
    ((after (.laneCompletion 0 (completionUnit 3 2 0 0 none)) (st (condemnable .running 0))).slot 0).stepIndex = 1 ∧
    ((after (.laneCompletion 0 (completionUnit 3 2 0 0 none)) (st (condemnable .running 1))).slot 0).state = .condemned := by decide

/-- `probing` with a step 0 that ends at its entry. -/
def probingPast : Part := probing.modTables fun t => { t with steps := (t.steps.set 0 (stepOf .dwell 0 0 0)).set 1 (stepOf .server 0 0 0) }

theorem test_step_ended_comes_before_slot_state :
    (after (.laneCompletion 0 (completionUnit 255 0 0 0 (some anIdentity))) (st probingPast)).trunk.notices.map (·.body) =
      [.driveIdentified 0 anIdentity, .stepEnded 0 (some 0) 0 0 0 .dwellReached, .slotState 0 .ident .running] := by decide

theorem test_loader_transfer_ends_50_ms_after_it_began :
    (after (.configTransferTimeout ⟨7, [1]⟩) (st { base with loader := loading 56 none })).loader.failedRead = none ∧
    (after (.configTransferTimeout ⟨7, [1]⟩) (st { base with loader := loading 57 none })).loader.failedRead = some [1] := by decide

theorem test_retest_enters_its_first_step :
    ((after .frameSendEnd (st (retesting 0 20))).slot 0).state = .running ∧
    ((after .frameSendEnd (st (retesting 0 20))).slot 0).retests = 1 ∧
    ((after .frameSendEnd (st (retesting 0 20))).slot 0).disposition = none := by decide

theorem test_retest_of_steps_of_no_dwell_ends_at_once :
    ((retesting 0 20).modTables fun t => { t with steps := mapV (fun _ => stepOf .dwell 0 0 0) t.steps }).zeroDwell 0 1 = true ∧
    ((after .frameSendEnd (st ((retesting 0 20).modTables fun t =>
      { t with steps := mapV (fun _ => stepOf .dwell 0 0 0) t.steps }))).slot 0).state = .spindown ∧
    ((after .frameSendEnd (st ((retesting 0 20).modTables fun t =>
      { t with steps := mapV (fun _ => stepOf .dwell 0 0 0) t.steps }))).slot 0).retests = 1 := by decide

theorem test_power_on_is_reset : exec (.powerOn 0x3F 0 0 true) State.reset =
    .next (State.reset.put (Part.powerUp 0x3F 0 0 true 0 0)) := rfl

theorem test_station_address_of_the_straps : (TrunkPort.powerUp 0x3F).station = 0x024A4600003F := by decide

theorem test_withFetchWord_changes_nothing : State.reset.withFetchWord 8 0 = State.reset ∧ decodeTableWord 8 0 = none := ⟨rfl, rfl⟩

end Sys2Proof.Tests
end

namespace Sys2Proof.Machine

/-! ## Updates of one slot, one after another -/

theorem Part.modSlot_modSlot (i : SlotId) (f g : Slot → Slot) (p : Part) :
    (p.modSlot i f).modSlot i g = p.modSlot i fun q => g (f q) := by
  simp [Part.modSlot, Part.slot]

theorem Part.modSlot_congr {i : SlotId} {f g : Slot → Slot} {p : Part} (h : f (p.slot i) = g (p.slot i)) :
    p.modSlot i f = p.modSlot i g := by
  simp [Part.modSlot, h]

theorem Part.modSlot_of_fixed {i : SlotId} {f : Slot → Slot} {p : Part} (h : f (p.slot i) = p.slot i) :
    p.modSlot i f = p := by
  unfold Part.modSlot
  rw [h]
  simp [Part.slot]

/-! ## ZONE_ALARM_SEEN, the one field of a slot that an offer can touch (R42, R145) -/

/-- The record with ZONE_ALARM_SEEN at a value. -/
def Slot.seen (b : Bool) (q : Slot) : Slot := { q with sticky := { q.sticky with zoneAlarmSeen := b } }

/-- The second record is the first but for ZONE_ALARM_SEEN. -/
def Slot.Like (q q' : Slot) : Prop := ∃ b, q' = q.seen b

theorem Slot.Like.refl (q : Slot) : q.Like q := ⟨q.sticky.zoneAlarmSeen, rfl⟩

theorem Slot.Like.trans {q q' q'' : Slot} (h : q.Like q') (h' : q'.Like q'') : q.Like q'' := by
  obtain ⟨a, rfl⟩ := h
  obtain ⟨b, rfl⟩ := h'
  exact ⟨b, rfl⟩

theorem Part.latchAlarm_like (z : ZoneId) (p : Part) (k : SlotId) : (p.slot k).Like ((p.latchAlarm z).slot k) := by
  unfold Part.latchAlarm
  refine Part.each_inv (P := fun q => (p.slot k).Like (q.slot k)) (fun i q hq => hq.trans ?_) _ _ (.refl _)
  by_cases h : i = k
  · subst h; rw [Part.modSlot_slot_self]; exact ⟨true, rfl⟩
  · rw [Part.modSlot_slot_ne h]; exact .refl _

theorem Part.judgeZone_like (z : ZoneId) (p : Part) (k : SlotId) : (p.slot k).Like ((p.judgeZone z).slot k) := by
  unfold Part.judgeZone
  simp only
  split
  · exact .refl _
  · cases (p.zone z).judged p.door.value == .alarm
    · exact .refl _
    · exact Part.latchAlarm_like z _ k

theorem Part.takeOffer_like (z : ZoneId) (p : Part) (k : SlotId) : (p.slot k).Like ((p.takeOffer z).slot k) :=
  Part.judgeZone_like z _ k

/-! ## What the judging of a zone never touches -/

@[simp] theorem Part.latchAlarm_zones (z : ZoneId) (p : Part) : (p.latchAlarm z).zones = p.zones :=
  Part.each_keeps (v := Part.zones) (f := fun i q => q.modSlot i _) (fun _ _ => rfl) _ _

/-- What a slot's change of state leaves alone but for the slot, the zones and the notices. -/
structure Ledger where
  spinQueue : List SlotId
  spinCount : Nat
  totes : Vector Tote 8
  completions : List Completion

/-- The ledger of a part. -/
def Part.ledger (p : Part) : Ledger := ⟨p.spinQueue, p.spinCount, p.totes, p.trunk.completions⟩

theorem TrunkPort.offerNotice_completions (n : Notice) (t : TrunkPort) :
    (t.offerNotice n).completions = t.completions := by
  rw [TrunkPort.offerNotice_quiet]

@[simp] theorem Part.raise_ledger (b : NoticeBody) (p : Part) : (p.raise b).ledger = p.ledger := by
  unfold Part.raise
  split
  · rfl
  · simp [Part.ledger, TrunkPort.offerNotice_completions]

@[simp] theorem Part.modSlot_ledger (i : SlotId) (f : Slot → Slot) (p : Part) : (p.modSlot i f).ledger = p.ledger := rfl

@[simp] theorem Part.judgeZone_ledger (z : ZoneId) (p : Part) : (p.judgeZone z).ledger = p.ledger := by
  unfold Part.judgeZone
  simp only
  split
  · rfl
  · exact Part.when_keeps (v := Part.ledger) _ _
      (Part.each_keeps (v := Part.ledger) (f := fun i q => q.modSlot i _) (fun _ _ => rfl) _ _)

@[simp] theorem Part.takeOffer_ledger (z : ZoneId) (p : Part) : (p.takeOffer z).ledger = p.ledger :=
  Part.judgeZone_ledger z _

@[simp] theorem Part.changeState_ledger (i : SlotId) (st : SlotState) (p : Part) :
    (p.changeState i st).ledger = p.ledger := by
  unfold Part.changeState
  exact (Part.when_keeps _ _ (Part.takeOffer_ledger _ _)).trans (by simp)

theorem Part.spinQueue_of_ledger {p t : Part} (h : t.ledger = p.ledger) : t.spinQueue = p.spinQueue :=
  congrArg Ledger.spinQueue h

theorem Part.spinCount_of_ledger {p t : Part} (h : t.ledger = p.ledger) : t.spinCount = p.spinCount :=
  congrArg Ledger.spinCount h

theorem Part.totes_of_ledger {p t : Part} (h : t.ledger = p.ledger) : t.totes = p.totes :=
  congrArg Ledger.totes h

theorem Part.completions_of_ledger {p t : Part} (h : t.ledger = p.ledger) :
    t.trunk.completions = p.trunk.completions :=
  congrArg Ledger.completions h

theorem Part.tables_of_quiet {p t : Part} (h : t.quiet = p.quiet) : t.tables = p.tables := congrArg Quiet.tables h

theorem Part.door_of_quiet {p t : Part} (h : t.quiet = p.quiet) : t.door = p.door := congrArg Quiet.door h

@[simp] theorem Part.changeState_spinQueue (i : SlotId) (st : SlotState) (p : Part) :
    (p.changeState i st).spinQueue = p.spinQueue := Part.spinQueue_of_ledger (by simp)
@[simp] theorem Part.changeState_spinCount (i : SlotId) (st : SlotState) (p : Part) :
    (p.changeState i st).spinCount = p.spinCount := Part.spinCount_of_ledger (by simp)
@[simp] theorem Part.changeState_totes (i : SlotId) (st : SlotState) (p : Part) :
    (p.changeState i st).totes = p.totes := Part.totes_of_ledger (by simp)
@[simp] theorem Part.changeState_tote (i : SlotId) (st : SlotState) (p : Part) (t : ToteId) :
    (p.changeState i st).tote t = p.tote t := by simp [Part.tote]
@[simp] theorem Part.changeState_tables (i : SlotId) (st : SlotState) (p : Part) :
    (p.changeState i st).tables = p.tables := Part.tables_of_quiet (by simp)
@[simp] theorem Part.changeState_door (i : SlotId) (st : SlotState) (p : Part) :
    (p.changeState i st).door = p.door := Part.door_of_quiet (by simp)

/-! ## Judged zones stay judged, and latch nothing -/

theorem Part.ZonesJudged.congr {p t : Part} (h : p.ZonesJudged) (hz : t.zones = p.zones) (hd : t.door = p.door) :
    t.ZonesJudged := by
  intro z
  have := h z
  simpa [Part.zone, hz, hd] using this

/-- Entering a state touches nothing that the state is judged by. -/
theorem Zone.enter_judged (base : Nat) (st : ZoneState) (d : Bool) (z : Zone) :
    (z.enter base st).judged d = z.judged d := rfl

theorem Zone.judged_eq_alarm (d : Bool) (z : Zone) :
    z.judged d = .alarm ↔ z.sensorFault = false ∧ z.alarm ≠ .stopped := by
  unfold Zone.judged
  cases z.sensorFault with
  | true => simp
  | false =>
    by_cases h : z.alarm = .stopped
    · simp only [h]; grind
    · simp [h]

theorem Part.judgeZone_zone_self (z : ZoneId) (p : Part) :
    ((p.judgeZone z).zone z).state = ((p.judgeZone z).zone z).judged (p.judgeZone z).door.value := by
  rw [Part.door_of_quiet (Part.judgeZone_quiet z p)]
  unfold Part.judgeZone
  simp only
  split
  next h => exact h.symm
  next =>
    have hz : ∀ (c : Bool) (q : Part), (q.when c (Part.latchAlarm z)).zone z = q.zone z := by
      intro c q; cases c <;> simp [Part.zone]
    rw [hz, Part.modZone_zone_self, Zone.enter_judged]
    rfl

theorem Part.judgeZone_zone_ne {z k : ZoneId} (h : z ≠ k) (p : Part) : (p.judgeZone z).zone k = p.zone k := by
  unfold Part.judgeZone
  simp only
  split
  · rfl
  · have hz : ∀ (c : Bool) (q : Part), (q.when c (Part.latchAlarm z)).zone k = q.zone k := by
      intro c q; cases c <;> simp [Part.zone]
    rw [hz, Part.modZone_zone_ne h]

theorem Part.takeOffer_zone_ne {z k : ZoneId} (h : z ≠ k) (p : Part) : (p.takeOffer z).zone k = p.zone k := by
  unfold Part.takeOffer
  rw [Part.judgeZone_zone_ne h, Part.modZone_zone_ne h]

theorem Part.ZonesJudged.takeOffer {p : Part} (h : p.ZonesJudged) (z : ZoneId) : (p.takeOffer z).ZonesJudged := by
  intro k
  by_cases hk : z = k
  · subst hk; exact Part.judgeZone_zone_self z _
  · rw [Part.takeOffer_zone_ne hk, Part.door_of_quiet (Part.takeOffer_quiet z p)]
    exact h k

/-- A zone that is judged does not enter ALARM by an offer, which changes its request alone: nothing is latched
(R42). -/
theorem Part.ZonesJudged.takeOffer_slots {p : Part} (h : p.ZonesJudged) (z : ZoneId) :
    (p.takeOffer z).slots = p.slots := by
  unfold Part.takeOffer Part.judgeZone
  simp only [Part.modZone_zone_self, Part.modZone_door]
  split
  · rfl
  next hne =>
    have hna : Zone.judged p.door.value { p.zone z with request := p.formRequest z } ≠ .alarm := by
      intro ha
      rw [Zone.judged_eq_alarm] at ha
      exact hne (by rw [(Zone.judged_eq_alarm _ _).mpr ha, h z, (Zone.judged_eq_alarm _ (p.zone z)).mpr ha])
    rw [beq_false_of_ne hna]
    rfl

theorem Part.ZonesJudged.takeOffer_slot {p : Part} (h : p.ZonesJudged) (z : ZoneId) (k : SlotId) :
    (p.takeOffer z).slot k = p.slot k := by
  simp [Part.slot, h.takeOffer_slots]

theorem Part.ZonesJudged.raise {p : Part} (h : p.ZonesJudged) (b : NoticeBody) : (p.raise b).ZonesJudged :=
  h.congr (by simp) (by simp)

theorem Part.ZonesJudged.modSlot {p : Part} (h : p.ZonesJudged) (i : SlotId) (f : Slot → Slot) :
    (p.modSlot i f).ZonesJudged := h

theorem Part.ZonesJudged.changeState {p : Part} (h : p.ZonesJudged) (i : SlotId) (st : SlotState) :
    (p.changeState i st).ZonesJudged := by
  unfold Part.changeState
  simp only
  have h' : ((p.modSlot i (·.into st)).raise (.slotState i (p.slot i).state st)).ZonesJudged := (h.modSlot i _).raise _
  cases ((p.slot i).state.atWork || st.atWork)
  · exact h'
  · exact h'.takeOffer _

/-! ## A change of state -/

/-- A change of state of a slot that is and will be at no work makes no offer (R145). -/
theorem Part.changeState_idle {p : Part} {i : SlotId} {st : SlotState} (h : (p.slot i).state.atWork = false)
    (hst : st.atWork = false) :
    p.changeState i st = (p.modSlot i (·.into st)).raise (.slotState i (p.slot i).state st) := by
  unfold Part.changeState
  simp [h, hst]

theorem Part.changeState_like (i : SlotId) (st : SlotState) (p : Part) (k : SlotId) :
    ((p.modSlot i (·.into st)).slot k).Like ((p.changeState i st).slot k) := by
  unfold Part.changeState
  simp only
  cases ((p.slot i).state.atWork || st.atWork)
  · simp only [Part.when_false, Part.raise_slot]; exact .refl _
  · simpa using Part.takeOffer_like (zoneOf i) ((p.modSlot i (·.into st)).raise (.slotState i (p.slot i).state st)) k

theorem Part.ZonesJudged.changeState_slot {p : Part} (h : p.ZonesJudged) (i : SlotId) (st : SlotState) (k : SlotId) :
    (p.changeState i st).slot k = (p.modSlot i (·.into st)).slot k := by
  unfold Part.changeState
  simp only
  cases ((p.slot i).state.atWork || st.atWork)
  · simp
  · rw [Part.when_true, Part.ZonesJudged.takeOffer_slot ((h.modSlot i _).raise _), Part.raise_slot]

theorem Part.changeState_zone_ne {i : SlotId} {z : ZoneId} (h : zoneOf i ≠ z) (st : SlotState) (p : Part) :
    (p.changeState i st).zone z = p.zone z := by
  unfold Part.changeState
  simp only
  cases ((p.slot i).state.atWork || st.atWork)
  · simp
  · rw [Part.when_true, Part.takeOffer_zone_ne h]; simp

theorem Part.changeState_slot_idle {p : Part} {i : SlotId} {st : SlotState} (h : (p.slot i).state.atWork = false)
    (hst : st.atWork = false) (k : SlotId) : (p.changeState i st).slot k = (p.modSlot i (·.into st)).slot k := by
  simp [Part.changeState_idle h hst]

theorem Part.changeState_zones_idle {p : Part} {i : SlotId} {st : SlotState} (h : (p.slot i).state.atWork = false)
    (hst : st.atWork = false) : (p.changeState i st).zones = p.zones := by
  simp [Part.changeState_idle h hst]

/-- A change of state shows the new state, whatever an offer latches. -/
@[simp] theorem Part.changeState_state (i : SlotId) (st : SlotState) (p : Part) :
    ((p.changeState i st).slot i).state = st := by
  obtain ⟨b, hb⟩ := Part.changeState_like i st p i
  rw [hb, Part.modSlot_slot_self]
  rfl

end Sys2Proof.Machine

namespace Sys2Proof.Machine

/-! ## What an event at a slot is made of

Every operation of the slot life cycle is a chain of a few elementary changes, said once here; what each of these
keeps, every operation keeps. -/

/-- One elementary change that an event at slot `i` makes, but for a completion appended. A record changed without a
change of state keeps the lamp and power with its state. -/
inductive Part.Move (i : SlotId) : Part → Part → Prop where
  | edit {p : Part} (f : Slot → Slot) (hf : (p.slot i).Dressed → (f (p.slot i)).Dressed) : Part.Move i p (p.modSlot i f)
  | change {p : Part} (f : Slot → Slot) (st : SlotState) : Part.Move i p ((p.modSlot i f).changeState i st)
  | offer {p : Part} : Part.Move i p (p.takeOffer (zoneOf i))
  | raise {p : Part} (b : NoticeBody) : Part.Move i p (p.raise b)
  | tote {p : Part} (t : ToteId) (f : Tote → Tote) : Part.Move i p (p.modTote t f)
  | join {p : Part} : Part.Move i p (p.joinQueue i)
  | leave {p : Part} : Part.Move i p (p.leaveQueue i)
  | count {p : Part} (n : Nat) : Part.Move i p { p with spinCount := n }
  | draw {p : Part} (n : Nat) : Part.Move i p { p with fresh := n }
  | grant {p : Part} (k : SlotId) (rest : List SlotId) (h : p.spinQueue = k :: rest) : Part.Move i p (p.grant k rest)

/-- An event at slot `i` that appends no completion leads from one part to another. -/
def Part.Moves (i : SlotId) : Part → Part → Prop := Relation.ReflTransGen (Part.Move i)

namespace Part.Moves

variable {i : SlotId} {p q : Part}

theorem refl (i : SlotId) (p : Part) : p.Moves i p := Relation.ReflTransGen.refl

theorem step (h : p.Moves i q) {t : Part} (hm : q.Move i t) : p.Moves i t := Relation.ReflTransGen.tail h hm

/-- What each elementary change keeps, a chain of them keeps. -/
theorem keeps {P : Part → Prop} (hm : ∀ {p t : Part}, p.Move i t → P p → P t) (h : p.Moves i q) (hp : P p) : P q := by
  induction h with
  | refl => exact hp
  | tail _ hs ih => exact hm hs ih

theorem edit (h : p.Moves i q) (f : Slot → Slot) (hf : (q.slot i).Dressed → (f (q.slot i)).Dressed) :
    p.Moves i (q.modSlot i f) := h.step (.edit f hf)

theorem change (h : p.Moves i q) (f : Slot → Slot) (st : SlotState) :
    p.Moves i ((q.modSlot i f).changeState i st) := h.step (.change f st)

theorem changeState (h : p.Moves i q) (st : SlotState) : p.Moves i (q.changeState i st) := by
  have := h.change id st
  rwa [Part.modSlot_of_fixed rfl] at this

theorem offer (h : p.Moves i q) : p.Moves i (q.takeOffer (zoneOf i)) := h.step .offer
theorem raise (h : p.Moves i q) (b : NoticeBody) : p.Moves i (q.raise b) := h.step (.raise b)
theorem tote (h : p.Moves i q) (t : ToteId) (f : Tote → Tote) : p.Moves i (q.modTote t f) := h.step (.tote t f)

theorem when (h : p.Moves i q) (c : Bool) {f : Part → Part} (hf : p.Moves i (f q)) : p.Moves i (q.when c f) := by
  cases c
  · exact h
  · exact hf

/-! ### The lane and the watchdog -/

theorem cutCommand (h : p.Moves i q) : p.Moves i (q.cutCommand i) := by
  unfold Part.cutCommand
  split
  · exact h
  · exact h
  · exact (h.edit _ id).step (.draw _)

theorem cutReset (h : p.Moves i q) : p.Moves i (q.cutReset i) := by
  unfold Part.cutReset
  split
  · exact h
  · exact h
  · exact (h.edit _ id).step (.draw _)

theorem sendReset (h : p.Moves i q) : p.Moves i (q.sendReset i) := h.cutCommand.edit _ id

end Part.Moves

/-- The lane transmitter's choice touches the transmitter alone. -/
theorem Slot.kick_dressed {q : Slot} (h : q.Dressed) : q.kick.Dressed := by
  unfold Slot.kick
  split
  · split
    · exact h
    · exact h
  · exact h

/-- A record with its lamp and power set by its state is dressed. -/
theorem Slot.dress_dressed (q : Slot) : q.dress.Dressed := ⟨rfl, rfl⟩

theorem Slot.record_dressed {q : Slot} (d : Fin 9) (r : Reason) (h : q.Dressed) : (q.record d r).Dressed := by
  unfold Slot.record
  split <;> exact h

theorem Slot.recordGrade_dressed {q : Slot} (g : Graded) (h : q.Dressed) : (q.recordGrade g).Dressed := by
  unfold Slot.recordGrade
  split <;> exact h

namespace Part.Moves

variable {i : SlotId} {p q : Part}

/-- A record changed with its lamp and power set by its state. -/
theorem redress (h : p.Moves i q) (f : Slot → Slot) : p.Moves i (q.modSlot i fun s => (f s).dress) :=
  h.edit _ fun _ => (f (q.slot i)).dress_dressed

theorem kick (h : p.Moves i q) : p.Moves i (q.modSlot i Slot.kick) := h.edit _ Slot.kick_dressed

theorem commandSent (h : p.Moves i q) : p.Moves i (q.commandSent i) := by
  unfold Part.commandSent
  split
  · exact h
  · exact h
  · exact h.edit _ fun hd => Slot.kick_dressed hd

theorem resetSent (h : p.Moves i q) : p.Moves i (q.resetSent i) := by
  unfold Part.resetSent
  split
  · exact h
  · exact h
  · exact h.edit _ fun hd => Slot.kick_dressed hd

theorem serviceSilence (h : p.Moves i q) : p.Moves i (q.serviceSilence i) := by
  unfold Part.serviceSilence
  split
  · exact h.redress _
  · exact h

theorem admitEntry (h : p.Moves i q) (e : Entry) : p.Moves i (q.admitEntry i e) :=
  Part.Moves.kick (Part.Moves.serviceSilence (h.edit _ fun hd => hd))

theorem orphan (h : p.Moves i q) : p.Moves i (q.orphan i) := by
  unfold Part.orphan
  exact h.edit _ id

theorem laneError (h : p.Moves i q) : p.Moves i (q.laneError i) := by
  unfold Part.laneError
  exact h.edit _ id

theorem hand (h : p.Moves i q) (x : Handing) : p.Moves i (q.hand i x).1 := by
  unfold Part.hand
  simp only
  split
  · split <;> exact h.edit (fun s => { s with acc := _ }) id
  · exact h

/-! ### Places -/

theorem reserve (h : p.Moves i q) (t : ToteId) : p.Moves i (q.reserve t i) := by
  unfold Part.reserve
  exact (Part.Moves.when ((h.tote _ _).raise _) _ (((((h.tote _ _).raise _)).tote _ _).raise _)).change _ _

theorem requestPlace (h : p.Moves i q) (t : ToteId) : p.Moves i (q.requestPlace t i) := by
  unfold Part.requestPlace
  split
  · exact h.reserve t
  · exact h.tote _ _
  · exact h.tote _ _

theorem enterToteWait (h : p.Moves i q) : p.Moves i (q.enterToteWait i) := (h.change _ _).requestPlace _

theorem place (h : p.Moves i q) : p.Moves i (q.place i) := by
  unfold Part.place
  split
  · exact h.tote _ _
  · exact h

theorem stray (h : p.Moves i q) : p.Moves i (q.stray i) := by
  unfold Part.stray
  split
  · exact h.raise _
  · exact (h.tote _ _).raise _

/-! ### Grants -/

theorem grantLoop (h : p.Moves i q) (n : Nat) : p.Moves i (q.grantLoop n) := by
  induction n generalizing q with
  | zero => exact h
  | succ n ih =>
    unfold Part.grantLoop
    split
    · exact h
    next k rest hq =>
      split
      · exact ih (h.step (.grant k rest hq))
      · exact h

theorem grants (h : p.Moves i q) : p.Moves i q.grants := h.grantLoop _

theorem leaveSpinup (h : p.Moves i q) (was : SlotState) : p.Moves i (q.leaveSpinup was) := by
  unfold Part.leaveSpinup
  split
  · exact h.step (.count _)
  · exact h

/-! ### Steps, draining and the way out -/

theorem stepEnded (h : p.Moves i q) (e : Ending) : p.Moves i (q.stepEnded i e) := h.raise _

theorem stepEnter (h : p.Moves i q) (k : Nat) : p.Moves i (q.stepEnter i k) := by
  unfold Part.stepEnter
  exact (h.redress _).offer

theorem chain (h : p.Moves i q) (n : Nat) : p.Moves i (q.chain i n).1 := by
  induction n generalizing q with
  | zero => exact h
  | succ n ih =>
    unfold Part.chain
    split
    · split
      · exact h
      · exact ih ((h.stepEnded _).stepEnter _)
    · exact h

theorem spindownOver (h : p.Moves i q) : p.Moves i (q.spindownOver i) := by
  unfold Part.spindownOver
  simp only
  split
  · exact ((h.change _ _).step .join).grants
  · exact (h.edit _ id).enterToteWait

theorem enterSpindown (h : p.Moves i q) : p.Moves i (q.enterSpindown i) := by
  unfold Part.enterSpindown
  simp only
  split
  · exact (h.change _ _).spindownOver
  · exact h.change _ _

theorem enterDraining (h : p.Moves i q) (e : Ending) : p.Moves i (q.enterDraining i e) :=
  (h.stepEnded e).change _ _

theorem gradeSlot (h : p.Moves i q) : p.Moves i (q.gradeSlot i) :=
  (h.edit _ (Slot.recordGrade_dressed _)).raise _

theorem enterSteps (h : p.Moves i q) : p.Moves i (q.enterSteps i).1 := by
  unfold Part.enterSteps
  exact (((h.redress _).stepEnter 0).chain _).raise _

theorem enterRetest (h : p.Moves i q) (r : Fin 16) : p.Moves i (q.enterRetest i r).1 :=
  (h.edit _ id).enterSteps

theorem leaveDraining (h : p.Moves i q) : p.Moves i (q.leaveDraining i) := (h.edit _ id).enterSpindown

theorem endDraining (h : p.Moves i q) (n : Nat) : p.Moves i (q.endDraining i n) := by
  induction n generalizing q with
  | zero => unfold Part.endDraining; exact h.gradeSlot.leaveDraining
  | succ n ih =>
    unfold Part.endDraining
    simp only
    split
    · exact h.gradeSlot.leaveDraining
    · split
      · exact ih ((h.gradeSlot.enterRetest _).enterDraining _)
      · exact h.gradeSlot.enterRetest _

theorem drainCheck (h : p.Moves i q) : p.Moves i (q.drainCheck i) := by
  unfold Part.drainCheck
  split
  · exact h.endDraining _
  · exact h

theorem afterChain {c : Part × Bool} (h : p.Moves i c.1) : p.Moves i (Part.afterChain i c) := by
  unfold Part.afterChain
  split
  · exact (h.enterDraining _).drainCheck
  · exact h

theorem settle (h : p.Moves i q) : p.Moves i (q.settle i) := Part.Moves.afterChain (h.chain _)

theorem endStep (h : p.Moves i q) (e : Ending) : p.Moves i (q.endStep i e) := by
  unfold Part.endStep
  split
  · exact ((h.stepEnded e).stepEnter _).settle
  · exact (h.enterDraining e).drainCheck

theorem noShow (h : p.Moves i q) : p.Moves i (q.noShow i) := by
  unfold Part.noShow
  refine ((h.edit _ id).sendReset.edit _ fun hd => ?_).enterSpindown
  split
  · exact Slot.record_dressed _ _ hd
  · exact hd

theorem moveCondemned (h : p.Moves i q) : p.Moves i (q.moveCondemned i) := by
  unfold Part.moveCondemned
  split
  · split
    · exact (((h.stepEnded _).stepEnter _).changeState _).settle
    · exact (h.enterDraining _).drainCheck
  · exact h

theorem condemn (h : p.Moves i q) : p.Moves i (q.condemn i) :=
  ((h.edit _ (Slot.record_dressed _ _)).raise _).moveCondemned

theorem drivePulled (h : p.Moves i q) : p.Moves i (q.drivePulled i) := h.raise _

theorem enterEmpty (h : p.Moves i q) : p.Moves i (q.enterEmpty i) := h.change _ _

theorem seat (h : p.Moves i q) : p.Moves i (q.seat i) := (h.raise _).changeState _

theorem seatQuietly (h : p.Moves i q) : p.Moves i (q.seatQuietly i) := by
  unfold Part.seatQuietly
  exact (h.redress _).raise _

/-- What an early end does once the entries' completions are made (R31). -/
theorem afterCompletions (h : p.Moves i q) (c : Cause) (was : SlotState) :
    p.Moves i (((((q.modSlot i fun s => { s with outstanding := [] }).sendReset i).modSlot i fun s =>
      (s.endEarly c).dress).leaveSpinup was).enterSpindown i |>.when (was == .spinup) Part.grants) := by
  have h' := ((((h.edit (fun s => { s with outstanding := [] }) id).sendReset).redress (·.endEarly c)).leaveSpinup
    was).enterSpindown
  exact h'.when _ h'.grants

/-! ### Events -/

theorem slotSecond (h : p.Moves i q) : p.Moves i (q.slotSecond i) := by
  have hforce : ∀ (st : StepEntry) {q : Part}, p.Moves i q → p.Moves i (q.forceStep i st) := fun st q h => by
    unfold Part.forceStep
    exact ((h.when _ (h.edit _ id)).raise _).endStep _
  have hadvance : ∀ (st : StepEntry) {q : Part}, p.Moves i q → p.Moves i (q.advanceStep i st) := fun st q h => by
    unfold Part.advanceStep
    split
    · exact h
    · exact h.endStep _
  unfold Part.slotSecond
  split
  · exact h
  · have h1 : p.Moves i (q.modSlot i Slot.countTest) := h.edit _ id
    refine h1.when _ ?_
    unfold Part.stepTick
    split
    · exact h1
    · split
      · exact hforce _ h1
      · exact hadvance _ (h1.edit _ id)

theorem stepLimit (h : p.Moves i q) : p.Moves i (q.stepLimit i) := h.when _ h.slotSecond

theorem presenceLine (h : p.Moves i q) (b : Bool) : p.Moves i (q.presenceLine i b) := h.edit _ id
theorem ejectLine (h : p.Moves i q) (b : Bool) : p.Moves i (q.ejectLine i b) := h.edit _ id

theorem arrival (h : p.Moves i q) : p.Moves i (q.arrival i) := by
  unfold Part.arrival
  split
  · exact Part.Moves.when (h.edit _ id) _ (h.edit _ id).seat
  · exact h

theorem ejectPress (h : p.Moves i q) : p.Moves i (q.ejectPress i) := by
  unfold Part.ejectPress
  split
  · refine h.edit _ fun hd => ?_
    split <;> exact hd
  · exact h

theorem ejectRelease (h : p.Moves i q) : p.Moves i (q.ejectRelease i) := by
  unfold Part.ejectRelease
  split
  · exact h.edit _ id
  · exact h

theorem enterIdent (h : p.Moves i q) : p.Moves i (q.enterIdent i) := by
  unfold Part.enterIdent
  simp only
  split
  · exact (h.changeState _).noShow
  · exact (h.changeState _).edit _ fun hd => Slot.kick_dressed hd

theorem spinupOver (h : p.Moves i q) : p.Moves i (q.spinupOver i) := by
  unfold Part.spinupOver
  split
  · exact (((h.leaveSpinup _).edit _ id).enterIdent).grants
  · exact h

theorem noShowOver (h : p.Moves i q) : p.Moves i (q.noShowOver i) := by
  unfold Part.noShowOver
  split
  · exact h.noShow
  · exact h

theorem spindownExpiry (h : p.Moves i q) : p.Moves i (q.spindownExpiry i) := by
  unfold Part.spindownExpiry
  split
  · exact h.spindownOver
  · exact h

theorem silenceFirst (h : p.Moves i q) : p.Moves i (q.silenceFirst i) := by
  unfold Part.silenceFirst Part.silenceWarning
  split
  · exact (h.redress _).raise _
  · exact h

theorem identified (h : p.Moves i q) (d : Identity) : p.Moves i (q.identified i d) :=
  Part.Moves.afterChain ((h.edit _ id).raise _).enterSteps

theorem probeAnswer (h : p.Moves i q) (m : CompletionMsg) : p.Moves i (q.probeAnswer i m) := by
  unfold Part.probeAnswer
  split
  · exact h.noShow
  · split
    · exact h.identified _
    · exact h.noShow

theorem laneDropped (h : p.Moves i q) (u : List Byte) : p.Moves i (q.laneDropped i u) := h.when _ h.laneError

theorem laneReady (h : p.Moves i q) : p.Moves i (q.laneReady i) := by
  unfold Part.laneReady Part.laneNotice
  split
  · refine Part.Moves.raise (h.edit _ fun hd => ?_) _
    exact Slot.kick_dressed hd
  · exact h

theorem startSlot (h : p.Moves i q) (r : Fin 16) : p.Moves i (q.startSlot i r) :=
  ((h.change _ _).step .join).grants

theorem stepDoneEffect (h : p.Moves i q) : p.Moves i (q.stepDoneEffect i) := by
  unfold Part.stepDoneEffect
  simp only
  split
  · exact h.serviceSilence
  · split
    · exact h.serviceSilence
    · exact h.serviceSilence.endStep _
    · split
      · exact (h.serviceSilence.edit _ id).endStep _
      · exact h.serviceSilence.edit _ id

theorem release (h : p.Moves i q) (tag : Byte) : p.Moves i (q.release i tag) := (h.edit _ id).drainCheck

theorem enableChange (h : p.Moves i q) (old : BitVec 24) : p.Moves i (q.enableChange old i) := by
  unfold Part.enableChange
  split
  · exact h.enterEmpty
  · split
    · exact h.seat
    · exact h

theorem seatIfSeatable (h : p.Moves i q) : p.Moves i (q.seatIfSeatable i) := h.when _ h.seatQuietly

theorem resetLaneIfPresent (h : p.Moves i q) : p.Moves i (q.resetLaneIfPresent i) := by
  unfold Part.resetLaneIfPresent
  split
  · exact h.sendReset
  · exact h.cutCommand

theorem trafficResetSlot (h : p.Moves i q) : p.Moves i (q.trafficResetSlot i) :=
  ((h.edit _ id).resetLaneIfPresent).edit _ id

theorem rackResetSlot (h : p.Moves i q) : p.Moves i (q.rackResetSlot i) :=
  (h.edit _ fun _ => ⟨rfl, rfl⟩).resetLaneIfPresent

end Part.Moves

end Sys2Proof.Machine

namespace Sys2Proof.Machine

/-! ## Events that append completions -/

/-- An event at slot `i` leads from one part to another: elementary changes, and completions appended. -/
def Part.Events (i : SlotId) : Part → Part → Prop :=
  Relation.ReflTransGen fun p t => p.Move i t ∨ ∃ c, t = p.pushCompletion c

namespace Part.Events

variable {i : SlotId} {p q t : Part}

theorem refl (i : SlotId) (p : Part) : p.Events i p := Relation.ReflTransGen.refl

theorem push (h : p.Events i q) (c : Completion) : p.Events i (q.pushCompletion c) :=
  Relation.ReflTransGen.tail h (.inr ⟨c, rfl⟩)

theorem moves (h : p.Events i q) (m : q.Moves i t) : p.Events i t := by
  induction m with
  | refl => exact h
  | tail _ hs ih => exact Relation.ReflTransGen.tail ih (.inl hs)

theorem of_moves (m : p.Moves i t) : p.Events i t := (refl i p).moves m

theorem when (h : p.Events i q) (c : Bool) {f : Part → Part} (hf : q.Moves i (f q)) : p.Events i (q.when c f) := by
  cases c
  · exact h
  · exact h.moves hf

/-- What each elementary change and each completion keeps, an event keeps. -/
theorem keeps {P : Part → Prop} (hm : ∀ {p t : Part}, p.Move i t → P p → P t)
    (hc : ∀ {p : Part} (c : Completion), P p → P (p.pushCompletion c)) (h : p.Events i q) (hp : P p) : P q := by
  induction h with
  | refl => exact hp
  | tail _ hs ih =>
    obtain hs | ⟨c, rfl⟩ := hs
    · exact hm hs ih
    · exact hc c ih

theorem completeOpen (h : p.Events i q) (st : Status) : p.Events i (q.completeOpen i st) := by
  unfold Part.completeOpen
  have hpush : p.Events i (q.each ((q.slot i).outstanding.filter fun e => e.live && !e.isProbe) fun e q =>
      q.pushCompletion (e.madeCompletion i st)) :=
    Part.each_inv (P := fun t => p.Events i t) (fun _ _ ht => ht.push _) _ _ h
  exact hpush.moves ((Part.Moves.refl i _).edit _ id)

theorem endEarly (h : p.Events i q) (c : Cause) : p.Events i (q.endEarly i c) :=
  (h.completeOpen c.status).moves ((Part.Moves.refl i _).afterCompletions c _)

theorem endIn (h : p.Events i q) (acts : SlotState → Bool) (c : Cause) : p.Events i (q.endIn acts i c) := by
  unfold Part.endIn
  split
  · exact h.endEarly c
  · exact h

theorem abort (h : p.Events i q) (c : Cause) : p.Events i (q.abort i c) := by
  unfold Part.abort
  split
  · refine h.moves (Part.Moves.edit ((Part.Moves.refl i q).step .leave) _ fun hd => ?_).enterToteWait
    exact Slot.record_dressed _ _ hd
  · exact h.endIn _ c

theorem currentFault (h : p.Events i q) : p.Events i (q.currentFault i) := by
  unfold Part.currentFault
  split
  · exact h.endIn _ _
  · exact h

theorem silenceSecond (h : p.Events i q) : p.Events i (q.silenceSecond i) := by
  unfold Part.silenceSecond Part.silenceWarning
  split
  · exact (h.moves ((Part.Moves.refl i q).raise _)).endEarly _
  · exact h

theorem holdOver (h : p.Events i q) : p.Events i (q.holdOver i) := by
  unfold Part.holdOver
  split
  · exact (h.moves ((Part.Moves.refl i q).edit _ id)).abort _
  · exact h

theorem lossEffects (h : p.Events i q) : p.Events i (q.lossEffects i) := by
  unfold Part.lossEffects
  split
  · exact h
  · exact h.moves (Part.Moves.refl i q).drivePulled
  · exact h.moves (Part.Moves.drivePulled ((Part.Moves.refl i q).step .leave))
  · exact h.moves ((Part.Moves.refl i q).leaveSpinup _).drivePulled
  iterate 4 exact (h.completeOpen _).moves (Part.Moves.refl i _).drivePulled
  · exact h.moves (Part.Moves.refl i q).drivePulled
  · exact h.moves (Part.Moves.refl i q).stray
  · exact h.moves (Part.Moves.refl i q).place

theorem loseDrive (h : p.Events i q) : p.Events i (q.loseDrive i) := by
  unfold Part.loseDrive
  exact (h.lossEffects.moves (Part.Moves.refl i _).cutCommand.cutReset.enterEmpty).when _ (Part.Moves.refl i _).grants

theorem loss (h : p.Events i q) : p.Events i (q.loss i) := by
  unfold Part.loss
  split
  · have h1 : p.Events i (q.modSlot i fun s => { s with presence := s.presence.settle }) :=
      h.moves ((Part.Moves.refl i q).edit _ id)
    simp only
    split
    · exact h1.moves (Part.Moves.refl i _).cutCommand.cutReset
    · exact h1.loseDrive
  · exact h

theorem matched (h : p.Events i q) (e : Entry) (t0 : Time) (m : CompletionMsg) :
    p.Events i (q.matched i e t0 m) := by
  unfold Part.matched
  refine Part.Events.when (push (h.moves (Part.Moves.edit ((Part.Moves.refl i q).hand _) _ ?_)) _) _
    (Part.Moves.refl i _).condemn
  exact id

theorem laneCompletion (h : p.Events i q) (u : List Byte) : p.Events i (q.laneCompletion i u) := by
  unfold Part.laneCompletion Part.takeCompletion
  have horphan := h.moves (Part.Moves.refl i q).orphan
  split
  · split
    · exact horphan
    · split
      · exact horphan
      · exact horphan
      · split
        · split
          · exact h.moves ((Part.Moves.refl i q).probeAnswer _)
          · exact horphan
        · exact h.matched _ _ _
  · exact h
  · exact h

theorem startRecovery (h : p.Events i q) (tag : Byte) : p.Events i (q.startRecovery i tag) := by
  unfold Part.startRecovery Part.laneNotice
  refine (h.completeOpen _).moves (Part.Moves.raise (Part.Moves.edit (Part.Moves.refl i _).sendReset _ fun hd => ?_) _)
  exact hd

theorem timedOut (h : p.Events i q) (e : Entry) : p.Events i (q.timedOut i e) := by
  unfold Part.timedOut Part.laneNotice
  simp only
  generalize hq1 : Part.when _ _ _ = q1
  have h1 : p.Events i q1 := by
    subst hq1
    refine Part.Events.when (Part.Events.moves (push (h.moves (Part.Moves.edit (.refl i q) _ ?_)) _)
      ((Part.Moves.refl i _).hand _)) _ (Part.Moves.refl i _).condemn
    exact id
  split
  · exact (h1.moves ((Part.Moves.refl i _).raise _)).endEarly _
  · exact h1.startRecovery _

theorem commandTimeout (h : p.Events i q) (tag : Byte) : p.Events i (q.commandTimeout i tag) := by
  unfold Part.commandTimeout
  split
  · split
    · exact h
    · exact h.timedOut _
  · exact h

theorem recoveryOver (h : p.Events i q) : p.Events i (q.recoveryOver i) := by
  unfold Part.recoveryOver Part.laneNotice
  split
  · refine (h.moves (Part.Moves.raise (Part.Moves.edit (.refl i q) _ ?_) _)).endIn _ _
    exact id
  · exact h

end Part.Events

/-! ## A command at one slot is an event there -/

theorem State.onPart_put {s : State} {f : Part → Part} {p : Part} (h : s.onPart f = .next (s.put p)) :
    p = f s.part := by
  simp only [State.onPart_eq, State.put, Host.Outcome.next.injEq, State.mk.injEq, true_and] at h
  exact h.symm

theorem exec_events {c : Instr} {i : SlotId} {s : State} {p : Part} (hc : slotOf c = some i)
    (h : exec c s = .next (s.put p)) : s.part.Events i p := by
  have r := Part.Moves.refl i s.part
  have r' := Part.Events.refl i s.part
  cases c <;> simp only [slotOf, Option.some.injEq, reduceCtorEq] at hc <;> subst hc <;>
    obtain rfl := State.onPart_put h
  case slotSecondTick => exact .of_moves r.slotSecond
  case stepTimeLimitExpiry => exact .of_moves r.stepLimit
  case presenceLineChange => exact .of_moves (r.presenceLine _)
  case presenceArrival => exact .of_moves r.arrival
  case presenceLoss => exact r'.loss
  case spinupWindowExpiry => exact .of_moves r.spinupOver
  case noShowWindowExpiry => exact .of_moves r.noShowOver
  case spindownWaitExpiry => exact .of_moves r.spindownExpiry
  case laneCommandSendEnd => exact .of_moves r.commandSent
  case resetLaneSendEnd => exact .of_moves r.resetSent
  case laneMessageDropped => exact .of_moves (r.laneDropped _)
  case laneCompletion => exact r'.laneCompletion _
  case laneReady => exact .of_moves r.laneReady
  case commandTimeout => exact r'.commandTimeout _
  case laneRecoveryWindowExpiry => exact r'.recoveryOver
  case currentFault => exact r'.currentFault
  case silenceFirstExpiry => exact .of_moves r.silenceFirst
  case silenceSecondExpiry => exact r'.silenceSecond
  case ejectLineChange => exact .of_moves (r.ejectLine _)
  case ejectPressed => exact .of_moves r.ejectPress
  case ejectReleased => exact .of_moves r.ejectRelease
  case ejectHoldExpiry => exact r'.holdOver

/-! ## What every event at a slot keeps -/

theorem Part.Move.quiet {i : SlotId} {p t : Part} (h : p.Move i t) : t.quiet = p.quiet := by
  cases h with
  | change f st => exact (Part.changeState_quiet i st _).trans (Part.modSlot_quiet i f p)
  | offer => exact Part.takeOffer_quiet _ p
  | raise b => exact Part.raise_quiet b p
  | grant k rest _ => exact Part.grant_quiet k rest p
  | _ => rfl

theorem Part.Moves.quiet {i : SlotId} {p t : Part} (h : p.Moves i t) : t.quiet = p.quiet :=
  h.keeps (P := fun q => q.quiet = p.quiet) (fun hm hq => hm.quiet.trans hq) rfl

theorem Part.Events.quiet {i : SlotId} {p t : Part} (h : p.Events i t) : t.quiet = p.quiet :=
  h.keeps (P := fun q => q.quiet = p.quiet) (fun hm hq => hm.quiet.trans hq) (fun _ hq => hq) rfl

/-! ## One grant -/

/-- The record that a grant leaves, before any offer latches. -/
theorem Slot.granted_eq (p : Part) (k : SlotId) :
    Slot.into .spinup { p.slot k with spinupTimer := some (.start (p.windowLength k)) } = p.granted (p.slot k) := rfl

/-- The slots of a grant before its offer. -/
theorem Part.grant_modSlot_slot (k : SlotId) (rest : List SlotId) (p : Part) (j : SlotId) :
    (((({ p with spinQueue := rest, spinCount := p.spinCount + 1 } : Part).modSlot k fun s =>
      { s with spinupTimer := some (.start (p.windowLength k)) }).modSlot k (·.into .spinup)).slot j) =
      if j = k then p.granted (p.slot k) else p.slot j := by
  rw [Part.modSlot_modSlot, Part.modSlot_slot]
  by_cases h : j = k
  · subst h; simp [← Slot.granted_eq]; rfl
  · rw [if_neg h, if_neg (Ne.symm h)]; rfl

/-- A grant to a slot at no work makes no offer. -/
theorem Part.grant_slot_idle {k : SlotId} {p : Part} (h : (p.slot k).state.atWork = false) (rest : List SlotId)
    (j : SlotId) : (p.grant k rest).slot j = if j = k then p.granted (p.slot k) else p.slot j := by
  unfold Part.grant
  rw [Part.changeState_slot_idle _ rfl, Part.grant_modSlot_slot]
  rw [Part.modSlot_slot_self]
  exact h

theorem Part.grant_zones_idle {k : SlotId} {p : Part} (h : (p.slot k).state.atWork = false) (rest : List SlotId) :
    (p.grant k rest).zones = p.zones := by
  unfold Part.grant
  rw [Part.changeState_zones_idle _ rfl]
  · rfl
  · rw [Part.modSlot_slot_self]
    exact h

/-- Where the zones are judged, no grant's offer latches anything. -/
theorem Part.ZonesJudged.grant_slot {p : Part} (h : p.ZonesJudged) (k : SlotId) (rest : List SlotId) (j : SlotId) :
    (p.grant k rest).slot j = if j = k then p.granted (p.slot k) else p.slot j := by
  unfold Part.grant
  rw [Part.ZonesJudged.changeState_slot, Part.grant_modSlot_slot]
  exact h.congr rfl rfl

/-- But for what its offer latches, a grant changes the granted slot alone. -/
theorem Part.grant_like (k : SlotId) (rest : List SlotId) (p : Part) (j : SlotId) :
    (if j = k then p.granted (p.slot k) else p.slot j).Like ((p.grant k rest).slot j) := by
  have h := Part.changeState_like k .spinup (({ p with spinQueue := rest, spinCount := p.spinCount + 1 } : Part).modSlot
    k fun s => { s with spinupTimer := some (.start (p.windowLength k)) }) j
  rwa [Part.grant_modSlot_slot] at h

theorem Part.grant_zone_ne {k : SlotId} {z : ZoneId} (hz : zoneOf k ≠ z) (rest : List SlotId) (p : Part) :
    (p.grant k rest).zone z = p.zone z := by
  unfold Part.grant
  rw [Part.changeState_zone_ne hz]
  rfl

theorem Part.grant_ledger (k : SlotId) (rest : List SlotId) (p : Part) :
    (p.grant k rest).ledger = { p.ledger with spinQueue := rest, spinCount := p.spinCount + 1 } := by
  unfold Part.grant
  rw [Part.changeState_ledger]
  rfl

@[simp] theorem Part.grant_spinQueue (k : SlotId) (rest : List SlotId) (p : Part) :
    (p.grant k rest).spinQueue = rest := congrArg Ledger.spinQueue (Part.grant_ledger k rest p)

@[simp] theorem Part.grant_spinCount (k : SlotId) (rest : List SlotId) (p : Part) :
    (p.grant k rest).spinCount = p.spinCount + 1 := congrArg Ledger.spinCount (Part.grant_ledger k rest p)

@[simp] theorem Part.grant_totes (k : SlotId) (rest : List SlotId) (p : Part) :
    (p.grant k rest).totes = p.totes := congrArg Ledger.totes (Part.grant_ledger k rest p)

theorem Part.Move.completions {i : SlotId} {p t : Part} (h : p.Move i t) :
    t.trunk.completions = p.trunk.completions := by
  cases h with
  | grant k rest _ => exact congrArg Ledger.completions (Part.grant_ledger k rest p)
  | change f st => exact Part.completions_of_ledger (Part.changeState_ledger i st _)
  | offer => exact Part.completions_of_ledger (Part.takeOffer_ledger _ _)
  | raise b => exact Part.completions_of_ledger (Part.raise_ledger _ _)
  | _ => rfl

theorem Part.Moves.completions {i : SlotId} {p t : Part} (h : p.Moves i t) :
    t.trunk.completions = p.trunk.completions :=
  h.keeps (P := fun q => q.trunk.completions = p.trunk.completions) (fun hm hq => hm.completions.trans hq) rfl

theorem Part.ZonesJudged.grant {p : Part} (h : p.ZonesJudged) (k : SlotId) (rest : List SlotId) :
    (p.grant k rest).ZonesJudged := by
  unfold Part.grant
  refine Part.ZonesJudged.changeState ?_ k _
  exact h.congr rfl rfl

theorem Part.Move.zonesJudged {i : SlotId} {p t : Part} (h : p.Move i t) (hp : p.ZonesJudged) : t.ZonesJudged := by
  cases h with
  | grant k rest _ => exact hp.grant k rest
  | change f st => exact (hp.modSlot i f).changeState i st
  | offer => exact hp.takeOffer _
  | raise b => exact hp.raise b
  | _ => exact hp.congr rfl rfl

theorem Part.Moves.zonesJudged {i : SlotId} {p t : Part} (h : p.Moves i t) (hp : p.ZonesJudged) : t.ZonesJudged :=
  h.keeps Part.Move.zonesJudged hp

end Sys2Proof.Machine

namespace Sys2Proof.Machine

/-! ## O53: the other slots and zones -/

/-- What an event at slot `i` of `p` has left in `t`, on the way: the other slots but those of the spin-up queue, and
the other zones, are as they were; the zones are judged; and the other slots that still wait are at no work, so that a
grant to one makes no offer. -/
structure Part.Beside (i : SlotId) (p t : Part) : Prop where
  judged : t.ZonesJudged
  slots : ∀ k, k ≠ i → k ∉ p.spinQueue → t.slot k = p.slot k
  queue : ∀ k ∈ t.spinQueue, k ≠ i → k ∈ p.spinQueue ∧ (t.slot k).state.atWork = false
  zones : ∀ z, z ≠ zoneOf i → t.zone z = p.zone z

namespace Part.Beside

variable {i : SlotId} {p q t : Part}

theorem refl (i : SlotId) (hz : p.ZonesJudged) (hq : p.QueuesSound) : p.Beside i p where
  judged := hz
  slots _ _ _ := rfl
  queue k hk _ := by
    obtain ⟨_, hmem, _⟩ := hq
    exact ⟨hk, by rw [(hmem k).mp hk]; rfl⟩
  zones _ _ := rfl

/-- A change at slot `i` and in its zone alone, with no other slot joining the queue. -/
theorem next (h : p.Beside i q) (hj : t.ZonesJudged) (hs : ∀ k, k ≠ i → t.slot k = q.slot k)
    (hq : ∀ k ∈ t.spinQueue, k ≠ i → k ∈ q.spinQueue) (hz : ∀ z, z ≠ zoneOf i → t.zone z = q.zone z) :
    p.Beside i t where
  judged := hj
  slots k hk hn := (hs k hk).trans (h.slots k hk hn)
  queue k hk hi := by rw [hs k hi]; exact h.queue k (hq k hk hi) hi
  zones z hz' := (hz z hz').trans (h.zones z hz')

theorem changeState (h : p.Beside i q) (st : SlotState) : p.Beside i (q.changeState i st) := by
  refine h.next (h.judged.changeState i st) (fun k hk => ?_) (fun k hk _ => ?_) (fun z hz => ?_)
  · rw [h.judged.changeState_slot, Part.modSlot_slot_ne (Ne.symm hk)]
  · rwa [Part.changeState_spinQueue] at hk
  · exact Part.changeState_zone_ne (Ne.symm hz) st q

theorem modSlot (h : p.Beside i q) (f : Slot → Slot) : p.Beside i (q.modSlot i f) :=
  h.next (h.judged.modSlot i f) (fun _ hk => Part.modSlot_slot_ne (Ne.symm hk) f q) (fun _ hk _ => hk)
    (fun _ _ => rfl)

/-- A grant to another slot changes that slot alone, which is one of the queue. -/
theorem grant (h : p.Beside i q) {k : SlotId} {rest : List SlotId} (hq : q.spinQueue = k :: rest) :
    p.Beside i (q.grant k rest) := by
  by_cases hk : k = i
  · subst hk
    refine h.next (h.judged.grant k rest) (fun j hj => ?_) (fun j hj _ => ?_)
      (fun z hz => Part.grant_zone_ne (Ne.symm hz) rest q)
    · rw [h.judged.grant_slot, if_neg hj]
    · rw [Part.grant_spinQueue] at hj
      rw [hq]
      exact List.mem_cons_of_mem _ hj
  · obtain ⟨hkp, hidle⟩ := h.queue k (by simp [hq]) hk
    refine ⟨h.judged.grant k rest, fun j hj hn => ?_, fun j hj hi => ?_, fun z hz => ?_⟩
    · rw [h.judged.grant_slot, if_neg fun e : j = k => hn (e ▸ hkp), h.slots j hj hn]
    · rw [Part.grant_spinQueue] at hj
      obtain ⟨hjp, hjw⟩ := h.queue j (by rw [hq]; exact List.mem_cons_of_mem _ hj) hi
      refine ⟨hjp, ?_⟩
      rw [h.judged.grant_slot]
      split
      · rfl
      · exact hjw
    · rw [← h.zones z hz]
      simp [Part.zone, Part.grant_zones_idle hidle]

theorem move (hm : q.Move i t) (h : p.Beside i q) : p.Beside i t := by
  have hj := hm.zonesJudged h.judged
  cases hm with
  | edit f _ => exact h.modSlot f
  | change f st => exact (h.modSlot f).changeState st
  | offer =>
    exact h.next hj (fun k _ => h.judged.takeOffer_slot _ k)
      (fun k hk _ => by rwa [Part.spinQueue_of_ledger (Part.takeOffer_ledger _ _)] at hk)
      (fun z hz => Part.takeOffer_zone_ne (Ne.symm hz) q)
  | raise b =>
    exact h.next hj (fun k _ => by simp) (fun k hk _ => by simpa using hk) (fun z _ => by simp)
  | join =>
    refine h.next hj (fun _ _ => rfl) (fun k hk hi => ?_) (fun _ _ => rfl)
    simpa [hi] using hk
  | leave =>
    refine h.next hj (fun _ _ => rfl) (fun k hk _ => ?_) (fun _ _ => rfl)
    exact List.mem_of_mem_filter hk
  | grant k rest hq => exact h.grant hq
  | tote => exact h.next hj (fun _ _ => rfl) (fun _ hk _ => hk) (fun _ _ => rfl)
  | count => exact h.next hj (fun _ _ => rfl) (fun _ hk _ => hk) (fun _ _ => rfl)
  | draw => exact h.next hj (fun _ _ => rfl) (fun _ hk _ => hk) (fun _ _ => rfl)

theorem push (c : Completion) (h : p.Beside i q) : p.Beside i (q.pushCompletion c) :=
  h.next (h.judged.congr rfl rfl) (fun _ _ => rfl) (fun _ hk _ => hk) (fun _ _ => rfl)

end Part.Beside

theorem Part.Events.beside {i : SlotId} {p t : Part} (h : p.Events i t) (hz : p.ZonesJudged) (hq : p.QueuesSound) :
    p.Beside i t :=
  h.keeps Part.Beside.move Part.Beside.push (.refl i hz hq)

/-- Settles O53: a command at one slot is an event there (`exec_events`), and an event keeps the rest. -/
theorem otherSlotsAreKept : Obligations.OtherSlotsAreKept := by
  intro c i s p hc hz hq hp
  have he := exec_events hc hp
  have hb := he.beside hz hq
  have hquiet := he.quiet
  refine ⟨hb.slots, fun z hzi => hb.zones z fun e => hzi (e ▸ rfl), ?_⟩
  exact ⟨congrArg Quiet.tables hquiet, congrArg Quiet.loader hquiet, congrArg Quiet.seconds hquiet,
    congrArg Quiet.ms hquiet, congrArg Quiet.door hquiet, congrArg Quiet.busRead hquiet,
    congrArg Quiet.serving hquiet, congrArg Quiet.requests hquiet, congrArg Quiet.response hquiet,
    congrArg Quiet.linkUp hquiet, congrArg Quiet.tx hquiet⟩

end Sys2Proof.Machine

namespace Sys2Proof.Machine

/-! ## O55: lamp and power follow the state -/

theorem Slot.Like.dressed {q q' : Slot} (h : q.Like q') (hq : q.Dressed) : q'.Dressed := by
  obtain ⟨b, rfl⟩ := h
  exact hq

/-! ### Elementary changes and events -/

namespace Part.Dressed

variable {p t : Part}

theorem congr (h : p.Dressed) (hs : t.slots = p.slots) : t.Dressed := by
  intro k
  have := h k
  simpa [Part.slot, hs] using this

theorem of_like (h : p.Dressed) (hl : ∀ k, (p.slot k).Like (t.slot k)) : t.Dressed := fun k => (hl k).dressed (h k)

theorem modSlot (h : p.Dressed) (i : SlotId) {f : Slot → Slot} (hf : (p.slot i).Dressed → (f (p.slot i)).Dressed) :
    (p.modSlot i f).Dressed := by
  intro k
  rw [Part.modSlot_slot]
  split
  · exact hf (h i)
  · exact h k

/-- A change of state dresses its slot, however the record stood. -/
theorem change (h : p.Dressed) (i : SlotId) (f : Slot → Slot) (st : SlotState) :
    ((p.modSlot i f).changeState i st).Dressed := by
  refine of_like ?_ (Part.changeState_like i st _)
  rw [Part.modSlot_modSlot]
  exact h.modSlot i fun _ => Slot.dress_dressed _

theorem raise (h : p.Dressed) (b : NoticeBody) : (p.raise b).Dressed := h.congr (by simp)

theorem takeOffer (h : p.Dressed) (z : ZoneId) : (p.takeOffer z).Dressed := h.of_like (Part.takeOffer_like z p)

theorem grant (h : p.Dressed) (k : SlotId) (rest : List SlotId) : (p.grant k rest).Dressed := by
  intro j
  refine (Part.grant_like k rest p j).dressed ?_
  split
  · exact ⟨rfl, rfl⟩
  · exact h j

theorem move {i : SlotId} (hm : p.Move i t) (h : p.Dressed) : t.Dressed := by
  cases hm with
  | edit f hf => exact h.modSlot i hf
  | change f st => exact h.change i f st
  | offer => exact h.takeOffer _
  | raise b => exact h.raise b
  | grant k rest _ => exact h.grant k rest
  | _ => exact h.congr rfl

theorem moves {i : SlotId} (h : p.Dressed) (hm : p.Moves i t) : t.Dressed := hm.keeps Part.Dressed.move h

theorem events {i : SlotId} (h : p.Dressed) (he : p.Events i t) : t.Dressed :=
  he.keeps Part.Dressed.move (fun _ hp => hp.congr rfl) h

theorem when (h : p.Dressed) (c : Bool) {f : Part → Part} (hf : p.Dressed → (f p).Dressed) : (p.when c f).Dressed := by
  cases c
  · exact h
  · exact hf h

theorem eachFree (h : p.Dressed) (l : List SlotId) {f : SlotId → Part → Part}
    (hf : ∀ i q, q.Dressed → (f i q).Dressed) : (p.eachFree l f).Dressed :=
  Part.eachFree_inv hf (fun _ _ hq => hq.congr rfl) l p h

theorem grants (h : p.Dressed) : p.grants.Dressed := h.moves (Part.Moves.refl 0 p).grants

/-! ### Zones -/

theorem judgeZone (h : p.Dressed) (z : ZoneId) : (p.judgeZone z).Dressed := h.of_like (Part.judgeZone_like z p)

theorem latchAlarm (h : p.Dressed) (z : ZoneId) : (p.latchAlarm z).Dressed := h.of_like (Part.latchAlarm_like z p)

theorem drawn (h : p.Dressed) (f : Nat → NoticeBody) : (p.drawn f).Dressed := (h.raise (f p.fresh)).congr rfl

theorem modZone (h : p.Dressed) (z : ZoneId) (f : Zone → Zone) : (p.modZone z f).Dressed := h.congr rfl

theorem judgeFault (h : p.Dressed) (z : ZoneId) : (p.judgeFault z).Dressed := by
  unfold Part.judgeFault
  simp only
  split
  · exact (h.modZone z _).raise _
  · split
    · exact (h.modZone z _).drawn _
    · exact h

theorem judgeAlarm (h : p.Dressed) (z : ZoneId) (x : Int) : (p.judgeAlarm z x).Dressed := by
  unfold Part.judgeAlarm
  simp only
  split
  · exact ((h.modZone z _).latchAlarm z).drawn _
  · split
    · exact (h.modZone z _).drawn _
    · exact h

theorem regulateZone (h : p.Dressed) (z : ZoneId) : (p.regulateZone z).Dressed := by
  unfold Part.regulateZone
  split
  · exact h.modZone z _
  · exact h.modZone z _
  · exact h.modZone z _
  · exact h
  · exact h

theorem sampleZone (h : p.Dressed) (z : ZoneId) (a : SensorAnswer) : (p.sampleZone z a).Dressed := by
  have h1 := (h.modZone z (·.sampled (readSample a))).judgeFault z
  unfold Part.sampleZone
  simp only
  cases hx : readSample a with
  | ok x => rw [hx] at h1; exact ((h1.judgeAlarm z x).judgeZone z).regulateZone z
  | error e => rw [hx] at h1; exact (h1.judgeZone z).regulateZone z

theorem tripZone (h : p.Dressed) (z : ZoneId) : (p.tripZone z).Dressed :=
  h.eachFree _ fun i q hq => hq.events ((Part.Events.refl i q).endIn _ _)

theorem sampleEnd (h : p.Dressed) (z : ZoneId) (a : SensorAnswer) : (p.sampleEnd z a).Dressed := by
  unfold Part.sampleEnd
  have h1 : Part.Dressed { p with busRead := nextRead z } := h.congr rfl
  exact (h1.sampleZone z a).when _ fun hq => hq.tripZone z

theorem sensorSample (h : p.Dressed) (a : SensorAnswer) : (p.sensorSample a).Dressed := by
  unfold Part.sensorSample
  split
  · exact h
  · exact h.sampleEnd _ a

theorem sensorTimeout (h : p.Dressed) : p.sensorTimeout.Dressed := by
  unfold Part.sensorTimeout
  split
  · exact h
  · split
    · exact h.sampleEnd _ _
    · exact h

theorem alarmOver (h : p.Dressed) (z : ZoneId) : (p.alarmOver z).Dressed := by
  unfold Part.alarmOver
  split
  · exact (((h.modZone z _).drawn _).judgeZone z).tripZone z
  · exact h

/-! ### Tables and totes -/

theorem serve (h : p.Dressed) (t : ToteId) : (p.serve t).Dressed := by
  have hk : ∀ (k : Nat) (p : Part), p.Dressed → (p.serveQueue t k).Dressed := by
    intro k
    induction k with
    | zero => exact fun _ h => h
    | succ k ih =>
      intro p h
      unfold Part.serveQueue
      split
      next i _ _ _ => exact ih _ (h.moves (((Part.Moves.refl i p).tote t _).reserve t))
      · exact h
  exact hk _ p h

theorem capacityChanged (h : p.Dressed) (t : ToteId) (cap : Nat) : (p.capacityChanged t cap).Dressed := by
  have hm : ∀ f, (p.modTote t f).Dressed := fun _ => h.congr rfl
  unfold Part.capacityChanged
  simp only
  split
  · exact h
  · split
    · exact (hm _).raise _
    · exact h
  · split
    · exact (hm _).serve t
    · exact h

theorem modTables (h : p.Dressed) (f : TableStore → TableStore) : (p.modTables f).Dressed := h.congr rfl

theorem storeRack (h : p.Dressed) (e : RackSettings) : (p.storeRack e).Dressed := by
  unfold Part.storeRack
  have h1 : Part.Dressed ((p.modTables fun t => { t with rack := e }).eachFree allSlots
      (Part.enableChange p.tables.rack.enables)) :=
    (h.modTables _).eachFree _ fun i q hq => hq.moves ((Part.Moves.refl i q).enableChange _)
  exact h1.when _ grants

theorem store (h : p.Dressed) (t : Table) (k : Nat) (c : List Byte) : (p.store t k c).1.Dressed := by
  cases t with
  | toteSettings => exact (h.modTables _).capacityChanged _ _
  | rackSettings => exact h.storeRack _
  | _ => exact h.modTables _

theorem load (h : p.Dressed) (body : List Byte) : (p.load body).part.Dressed := by
  unfold Part.load
  split
  · exact h
  · split
    · exact h
    · split
      · exact h
      · exact h.store _ _ _

/-! ### Loading -/

theorem modTrunk (h : p.Dressed) (f : TrunkPort → TrunkPort) : (p.modTrunk f).Dressed := h.congr rfl

theorem skipRecord (h : p.Dressed) : p.skipRecord.Dressed := h.congr rfl

theorem applyRecord (body : List Byte) (p : Part) (h : p.Dressed) : (p.applyRecord body).Dressed := by
  unfold Part.applyRecord
  simp only
  split
  · exact (h.load body).congr rfl
  · exact (h.load body).skipRecord

theorem applyImage (h : p.Dressed) (img : List Byte) : (p.applyImage img).Dressed := by
  have h1 : (p.applyTrunkType (field img 12 2)).Dressed := by
    unfold Part.applyTrunkType
    split
    · exact h
    · split
      · exact h.skipRecord
      · exact h.modTables _
  have h2 := Part.each_inv applyRecord ((imageRecords img (field img 2 2)).getD []) _ h1
  unfold Part.applyImage Part.applyStation
  split
  · exact h2
  · exact h2.modTrunk _

theorem endLoading (h : p.Dressed) (o : LoadOutcome) : (p.endLoading o).Dressed := by
  unfold Part.endLoading
  have h1 : Part.Dressed { p with loader := { p.loader with phase := .ready, outcome := some o } } := h.congr rfl
  exact ((h1.eachFree _ fun i q hq => hq.moves (Part.Moves.refl i q).seatIfSeatable).raise _).grants

theorem loadEnd (h : p.Dressed) (acked : List Byte) : (p.loadEnd acked).Dressed := by
  unfold Part.loadEnd
  split
  · exact (h.when _ fun hq => hq.applyImage acked).endLoading _
  · exact h

theorem transferTimeout (h : p.Dressed) (x : EndedTransfer) : (p.transferTimeout x).Dressed := by
  unfold Part.transferTimeout
  split
  · exact h.congr rfl
  · exact h

/-- Power-on leaves every slot EMPTY, dark and without power. -/
theorem powerOn (strap : BitVec 6) (presence eject : BitVec 24) (doorOpen : Bool) (p : Part) :
    (p.powerOn strap presence eject doorOpen).Dressed := by
  intro k
  have hk : ((p.powerOn strap presence eject doorOpen).slot k) = Slot.powerUp presence[k] eject[k] := by
    simp [Part.slot, Part.powerOn, Part.powerUp]
  rw [hk]
  exact ⟨rfl, rfl⟩

/-! ### The trunk and the requests -/

theorem receive (h : p.Dressed) (good : Bool) (dest source : Mac) (ty : BitVec 16) (data : List Byte) :
    (p.receive good dest source ty data).Dressed := by
  unfold Part.receive Part.message
  split
  · exact h.modTrunk _
  · split
    · split
      · exact h.modTrunk _
      · unfold Part.slotCommand
        split
        · refine Part.Dressed.modSlot ?_ _ id
          exact h.modTrunk _
        · exact h.moves ((Part.Moves.refl _ p).admitEntry _)
      · exact h.modTrunk _
    · exact h

/-- The Management Unit's own part of a request touches no slot. -/
theorem take (h : p.Dressed) (mine : Request → Bool) {serve : Request → Part → Answer}
    (hs : ∀ r q, q.Dressed → (serve r q).part.Dressed) : (p.take mine serve).Dressed := by
  unfold Part.take
  split
  next r rest _ _ =>
    split
    · have hq : Part.Dressed
          { p.modTrunk fun t => { t with requests := rest, server := r.source } with serving := some r } :=
        h.congr rfl
      refine Part.Dressed.modTrunk ?_ _
      split
      · exact hq
      · exact hs r _ hq
    · exact h
  · exact h

theorem trafficReset (h : p.Dressed) : p.trafficReset.Dressed := by
  unfold Part.trafficReset
  exact (Part.each_inv (fun i q hq => hq.moves (Part.Moves.refl i q).trafficResetSlot) _ _ (h.modTrunk _)).eachFree _
    fun i q hq => hq.moves (Part.Moves.refl i q).drainCheck

theorem rackResetShared (h : p.Dressed) : p.rackResetShared.Dressed := h.congr rfl

theorem rackReset (h : p.Dressed) : p.rackReset.Dressed := by
  unfold Part.rackReset
  have h1 := Part.each_inv (P := Part.Dressed) (fun i q hq => hq.moves (Part.Moves.refl i q).rackResetSlot) allSlots _
    (h.modTrunk TrunkPort.reset)
  exact (h1.rackResetShared.eachFree _ fun i q hq => hq.moves (Part.Moves.refl i q).seatIfSeatable).grants

theorem choose (h : p.Dressed) : p.choose.Dressed := by
  unfold Part.choose Part.chooseWaiting
  split
  · split
    · exact h.modTrunk _
    · split
      · exact h
      · exact h.modTrunk _
      · exact h.modTrunk _
      · split
        · exact h.modTrunk _
        · exact h.modTrunk _
  · exact h

theorem completionSent (h : p.Dressed) : p.completionSent.Dressed := by
  unfold Part.completionSent
  split
  · exact h
  next c rest _ =>
    exact (h.modTrunk fun t => { t with completions := rest }).when _ fun hq =>
      hq.moves ((Part.Moves.refl c.slot _).release c.tag)

theorem reportLost (h : p.Dressed) : p.reportLost.Dressed := by
  unfold Part.reportLost
  split
  · exact h
  · exact Part.Dressed.modTrunk (h.when _ fun hq => hq.modTrunk _) _

theorem frameSent (h : p.Dressed) : p.frameSent.Dressed := by
  unfold Part.frameSent Part.itemSent
  split
  · exact h
  · split
    · exact h.congr rfl
    · exact (h.modTrunk _).completionSent
    · exact ((h.modTrunk _).modTrunk _).reportLost

/-! ### Time and the door -/

theorem tick (h : p.Dressed) : p.tick.Dressed := by
  have hall : ∀ {q : Part} (f : Slot → Slot), (∀ x : Slot, x.Dressed → (f x).Dressed) → q.Dressed →
      (q.modAllSlots f).Dressed := fun f hf hq k => by rw [Part.modAllSlots_slot]; exact hf _ (hq k)
  have h1 : p.advance.Dressed := by
    unfold Part.advance
    split <;> exact h.congr rfl
  have h2 : p.advance.count1.Dressed := (hall Slot.tick1 (fun _ hx => hx) h1).congr rfl
  unfold Part.tick
  refine Part.Dressed.when (h2.when _ fun hq => ?_) _ fun hq => ?_
  · exact (hall Slot.tick100 (fun _ hx => hx) hq).congr rfl
  · exact (hall Slot.tickSecond (fun _ hx => hx) hq).congr rfl

theorem doorEvent (h : p.Dressed) : p.doorEvent.Dressed := by
  unfold Part.doorEvent
  split
  · have h1 : Part.Dressed { p with door := p.door.settle } := h.congr rfl
    exact (Part.each_inv (P := Part.Dressed) (fun z q hq => hq.judgeZone z) _ _ (h1.raise _)).when _ grants
  · exact h

end Part.Dressed

/-! ### The requests, one by one -/

theorem serveStartSlot_dressed (r : Request) (p : Part) (h : p.Dressed) : (serveStartSlot r p).part.Dressed := by
  unfold serveStartSlot
  split
  · exact h
  · exact h.moves ((Part.Moves.refl _ p).startSlot _)

theorem serveStepDone_dressed (r : Request) (p : Part) (h : p.Dressed) : (serveStepDone r p).part.Dressed := by
  unfold serveStepDone
  split
  · exact h
  · exact h.moves (Part.Moves.refl _ p).stepDoneEffect

theorem serveAbortSlot_dressed (r : Request) (p : Part) (h : p.Dressed) : (serveAbortSlot r p).part.Dressed := by
  unfold serveAbortSlot
  split
  · exact h
  · split
    · exact h
    · exact h.events ((Part.Events.refl _ p).abort _)

theorem serveService_dressed (r : Request) (p : Part) (h : p.Dressed) : (serveService r p).part.Dressed :=
  Part.each_inv (P := Part.Dressed)
    (fun i _ hq => hq.when _ fun hq => hq.moves (Part.Moves.refl i _).serviceSilence) allSlots p h

theorem serveToteSwap_dressed (r : Request) (p : Part) (h : p.Dressed) : (serveToteSwap r p).part.Dressed := by
  unfold serveToteSwap
  split
  · exact h
  · split
    · exact h
    · refine Part.Dressed.serve ?_ _
      exact h.congr rfl

theorem serveToteWithdraw_dressed (r : Request) (p : Part) (h : p.Dressed) : (serveToteWithdraw r p).part.Dressed := by
  unfold serveToteWithdraw
  split
  · exact h
  · split
    · exact h
    · split
      · exact h
      · exact h.congr rfl

theorem serveReadEntry_dressed (r : Request) (p : Part) (h : p.Dressed) : (serveReadEntry r p).part.Dressed := by
  unfold serveReadEntry
  split
  · exact h
  · split <;> exact h

theorem serveReadZone_dressed (r : Request) (p : Part) (h : p.Dressed) : (serveReadZone r p).part.Dressed := by
  unfold serveReadZone
  split <;> exact h

/-- The counters of a slot are no part of its lamp and power. -/
theorem serveReadCounters_dressed (r : Request) (p : Part) (h : p.Dressed) : (serveReadCounters r p).part.Dressed := by
  unfold serveReadCounters
  split
  · exact h
  · refine h.when _ fun hq k => ?_
    unfold Part.zeroCounters
    rw [Part.modAllSlots_slot]
    exact hq k

theorem serveReadSlot_dressed (r : Request) (p : Part) (h : p.Dressed) : (serveReadSlot r p).part.Dressed := by
  unfold serveReadSlot
  exact Part.Dressed.modSlot h _ id

theorem serveResetTraffic_dressed (r : Request) (p : Part) (h : p.Dressed) : (serveResetTraffic r p).part.Dressed := by
  dsimp only [serveResetTraffic, Answer.ok]
  exact Part.Dressed.trafficReset h

theorem serveResetRack_dressed (r : Request) (p : Part) (h : p.Dressed) : (serveResetRack r p).part.Dressed := by
  dsimp only [serveResetRack, Answer.ok]
  exact Part.Dressed.rackReset h

/-- Every command answers with another part and the same queue. -/
theorem exec_put {c : Instr} {s s' : State} (h : exec c s = .next s') : exec c s = .next (s.put s'.part) := by
  cases c <;> (cases h; rfl)

/-- Every command keeps the lamps and the power enable lines with the states. -/
theorem exec_dressed {c : Instr} {s s' : State} (h : s.part.Dressed) (he : exec c s = .next s') : s'.part.Dressed := by
  have hput := exec_put he
  cases hc : slotOf c with
  | some i => exact h.events (exec_events hc hput)
  | none =>
    cases c <;> simp only [slotOf, reduceCtorEq] at hc <;> rw [State.onPart_put hput]
    case powerOn => exact Part.Dressed.powerOn _ _ _ _ _
    case configTransferTimeout x => exact h.transferTimeout x
    case configImageLoadEnd acked => exact h.loadEnd acked
    case trunkFrameReceived => exact h.receive _ _ _ _ _
    case unknownRequestCode => exact h.take _ fun _ _ hq => hq
    case readPartId => exact h.take _ fun _ _ hq => hq
    case loadEntry => exact h.take _ fun r _ hq => hq.load r.body
    case readEntry => exact h.take _ serveReadEntry_dressed
    case readSlot => exact h.take _ serveReadSlot_dressed
    case readZone => exact h.take _ serveReadZone_dressed
    case readCounters => exact h.take _ serveReadCounters_dressed
    case startSlot => exact h.take _ serveStartSlot_dressed
    case stepDone => exact h.take _ serveStepDone_dressed
    case abortSlot => exact h.take _ serveAbortSlot_dressed
    case service => exact h.take _ serveService_dressed
    case toteSwap => exact h.take _ serveToteSwap_dressed
    case toteWithdraw => exact h.take _ serveToteWithdraw_dressed
    case resetTraffic => exact h.take _ serveResetTraffic_dressed
    case resetRack => exact h.take _ serveResetRack_dressed
    case transmitChoice => exact h.choose
    case frameSendEnd => exact h.frameSent
    case linkUp => exact h.modTrunk _
    case linkDown => exact h.modTrunk _
    case timeBaseTick => exact h.tick
    case doorLineChange => exact h.congr rfl
    case doorChanged => exact h.doorEvent
    case sensorReadTimeout => exact h.sensorTimeout
    case sensorSample a => exact h.sensorSample a
    case alarmTimerExpiry z => exact h.alarmOver z

/-- Settles O55: a step is its command's effect, and every command keeps each slot dressed. -/
theorem stepKeepsDressed : Obligations.StepKeepsDressed := by
  intro s s' h hs
  unfold step at hs
  split at hs
  · cases hs; exact h
  next c rest _ => exact exec_dressed (s := { s with pending := rest }) h hs

end Sys2Proof.Machine

namespace Sys2Proof.Machine

/-! ## Places (R178 to R182) -/

@[simp] theorem Part.modSlot_capacity (i : SlotId) (f : Slot → Slot) (p : Part) (t : ToteId) :
    (p.modSlot i f).capacity t = p.capacity t := rfl

@[simp] theorem Part.changeState_capacity (i : SlotId) (st : SlotState) (p : Part) (t : ToteId) :
    (p.changeState i st).capacity t = p.capacity t := by simp [Part.capacity]

/-- A tote after the reservation of its next place for a slot with the record `q` (R178, R180). -/
def Part.reserved (p : Part) (t : ToteId) (i : SlotId) (q : Slot) : Tote :=
  let x := p.tote t
  { x with
    manifest := x.manifest ++ [q.manifestEntry i (x.manifest.length + 1)]
    state := if x.manifest.length + 1 = p.capacity t then .full else x.state }

/-- A reservation but for the slot's own move: the manifest entry, its notice, and the tote FULL by its last place. -/
def Part.noted (t : ToteId) (i : SlotId) (p : Part) : Part :=
  ((p.modTote t fun q => { q with manifest := q.manifest ++ [(p.slot i).manifestEntry i ((p.tote t).fill + 1)] }).raise
    (.unloadReady i t ((p.tote t).fill + 1) (p.slot i).disposition (p.slot i).reason)).when
    ((p.tote t).fill + 1 == p.capacity t) fun q =>
      (q.modTote t fun x => { x with state := .full }).raise (.toteFull t ((p.tote t).fill + 1) (q.tote t).wait.length)

theorem Part.reserve_eq (t : ToteId) (i : SlotId) (p : Part) :
    p.reserve t i = ((p.noted t i).modSlot i fun x => { x with position := some ((p.tote t).fill + 1) }).changeState i
      .unloadReady := by
  unfold Part.reserve Part.noted
  simp only [Part.capacity]

theorem Part.noted_keeps {α : Type} {v : Part → α} (ht : ∀ (t : ToteId) f (q : Part), v (q.modTote t f) = v q)
    (hr : ∀ b (q : Part), v (q.raise b) = v q) (t : ToteId) (i : SlotId) (p : Part) : v (p.noted t i) = v p := by
  unfold Part.noted
  refine (Part.when_keeps _ _ ?_).trans ?_
  · rw [hr, ht]
  · rw [hr, ht]

@[simp] theorem Part.noted_slot (t : ToteId) (i : SlotId) (p : Part) (k : SlotId) : (p.noted t i).slot k = p.slot k :=
  Part.noted_keeps (v := (·.slot k)) (fun _ _ _ => rfl) (fun b q => q.raise_slot b k) t i p

@[simp] theorem Part.noted_zones (t : ToteId) (i : SlotId) (p : Part) : (p.noted t i).zones = p.zones :=
  Part.noted_keeps (fun _ _ _ => rfl) (fun b q => q.raise_zones b) t i p

@[simp] theorem Part.noted_spinQueue (t : ToteId) (i : SlotId) (p : Part) : (p.noted t i).spinQueue = p.spinQueue :=
  Part.noted_keeps (fun _ _ _ => rfl) (fun b q => q.raise_spinQueue b) t i p

@[simp] theorem Part.noted_spinCount (t : ToteId) (i : SlotId) (p : Part) : (p.noted t i).spinCount = p.spinCount :=
  Part.noted_keeps (fun _ _ _ => rfl) (fun b q => q.raise_spinCount b) t i p

@[simp] theorem Part.noted_door (t : ToteId) (i : SlotId) (p : Part) : (p.noted t i).door = p.door :=
  Part.noted_keeps (fun _ _ _ => rfl) (fun b q => q.raise_door b) t i p

theorem Part.noted_tote (t : ToteId) (i : SlotId) (p : Part) (u : ToteId) :
    (p.noted t i).tote u = if u = t then p.reserved t i (p.slot i) else p.tote u := by
  unfold Part.noted Part.reserved Tote.fill
  by_cases hf : (p.tote t).manifest.length + 1 = p.capacity t
  · rw [beq_iff_eq.mpr hf]
    by_cases hu : u = t
    · subst hu; simp [hf]
    · simp [hu, Part.modTote_tote_ne (Ne.symm hu)]
  · rw [beq_false_of_ne hf]
    by_cases hu : u = t
    · subst hu; simp [hf]
    · simp [hu, Part.modTote_tote_ne (Ne.symm hu)]

/-- The record of a slot that has taken the place `pos`. -/
def Slot.inPlace (pos : Nat) (q : Slot) : Slot := Slot.into .unloadReady { q with position := some pos }

/-- But for what its offer latches, a reservation changes the slot's own record alone. -/
theorem Part.reserve_like (t : ToteId) (i : SlotId) (p : Part) (k : SlotId) :
    (if k = i then (p.slot i).inPlace ((p.tote t).manifest.length + 1) else p.slot k).Like
      ((p.reserve t i).slot k) := by
  rw [Part.reserve_eq]
  have h := Part.changeState_like i .unloadReady ((p.noted t i).modSlot i fun x =>
    { x with position := some ((p.tote t).fill + 1) }) k
  rw [Part.modSlot_modSlot, Part.modSlot_slot] at h
  by_cases hk : k = i
  · subst hk; simpa [Slot.inPlace, Tote.fill] using h
  · simpa [hk, Ne.symm hk] using h

/-- The same without the exception: where the zones are judged, or the slot is at no work. -/
theorem Part.reserve_slot {t : ToteId} {i : SlotId} {p : Part} (h : p.ZonesJudged ∨ (p.slot i).state.atWork = false)
    (k : SlotId) : (p.reserve t i).slot k =
      if k = i then (p.slot i).inPlace ((p.tote t).manifest.length + 1) else p.slot k := by
  rw [Part.reserve_eq]
  have h' : (((p.noted t i).modSlot i fun x => { x with position := some ((p.tote t).fill + 1) }).changeState i
      .unloadReady).slot k = (((p.noted t i).modSlot i fun x =>
      { x with position := some ((p.tote t).fill + 1) }).modSlot i (·.into .unloadReady)).slot k := by
    obtain hz | hw := h
    · refine Part.ZonesJudged.changeState_slot (Part.ZonesJudged.modSlot ?_ _ _) _ _ _
      exact hz.congr (by simp) (by simp)
    · refine Part.changeState_slot_idle ?_ rfl k
      rw [Part.modSlot_slot_self, Part.noted_slot]
      exact hw
  rw [h', Part.modSlot_modSlot, Part.modSlot_slot]
  by_cases hk : k = i
  · subst hk; simp [Slot.inPlace, Tote.fill]
  · simp [hk, Ne.symm hk]

theorem Part.reserve_tote (t : ToteId) (i : SlotId) (p : Part) (u : ToteId) :
    (p.reserve t i).tote u = if u = t then p.reserved t i (p.slot i) else p.tote u := by
  rw [Part.reserve_eq, Part.changeState_tote, Part.modSlot_tote, Part.noted_tote]

@[simp] theorem Part.reserve_spinQueue (t : ToteId) (i : SlotId) (p : Part) :
    (p.reserve t i).spinQueue = p.spinQueue := by
  simp [Part.reserve_eq]

@[simp] theorem Part.reserve_spinCount (t : ToteId) (i : SlotId) (p : Part) :
    (p.reserve t i).spinCount = p.spinCount := by
  simp [Part.reserve_eq]

/-! ## TOTE_WAIT entry of a slot at no work (R37, R179 to R181) -/

theorem Part.requestPlace_slot {t : ToteId} {i : SlotId} {p : Part} (h : (p.slot i).state.atWork = false) (k : SlotId) :
    (p.requestPlace t i).slot k =
      if k = i ∧ (p.tote t).state = .opened then (p.slot i).inPlace ((p.tote t).manifest.length + 1) else p.slot k := by
  unfold Part.requestPlace
  split
  next hs => simp [Part.reserve_slot (.inr h), hs]
  next hs => simp [hs]
  next hs => simp [hs]

theorem Part.requestPlace_tote (t : ToteId) (i : SlotId) (p : Part) (u : ToteId) :
    (p.requestPlace t i).tote u =
      if u = t then
        if (p.tote t).state = .opened then p.reserved t i (p.slot i)
        else { p.tote t with wait := (p.tote t).wait ++ [i] }
      else p.tote u := by
  have hwait : (p.modTote t fun q => { q with wait := q.wait ++ [i] }).tote u =
      if u = t then { p.tote t with wait := (p.tote t).wait ++ [i] } else p.tote u := by
    rw [Part.modTote_tote]
    simp only [eq_comm]
  unfold Part.requestPlace
  split
  next hs => simp [Part.reserve_tote, hs]
  next hs => simp [hwait, hs]
  next hs => simp [hwait, hs]

@[simp] theorem Part.requestPlace_spinQueue (t : ToteId) (i : SlotId) (p : Part) :
    (p.requestPlace t i).spinQueue = p.spinQueue := by
  unfold Part.requestPlace; split <;> simp

@[simp] theorem Part.requestPlace_spinCount (t : ToteId) (i : SlotId) (p : Part) :
    (p.requestPlace t i).spinCount = p.spinCount := by
  unfold Part.requestPlace; split <;> simp

/-- The bin that a record is sorted by (R37). -/
def Part.binOf (p : Part) (q : Slot) : BinEntry := p.tables.bins[q.disposition.getD 8]

@[simp] theorem Part.enterToteWait_spinQueue (i : SlotId) (p : Part) : (p.enterToteWait i).spinQueue = p.spinQueue := by
  simp [Part.enterToteWait]

@[simp] theorem Part.enterToteWait_spinCount (i : SlotId) (p : Part) : (p.enterToteWait i).spinCount = p.spinCount := by
  simp [Part.enterToteWait]

theorem Part.enterToteWait_eq (i : SlotId) (p : Part) :
    p.enterToteWait i = ((p.modSlot i fun s => { s with
      tote := some (p.binOf (p.slot i)).tote
      binLamp := some ⟨(p.binOf (p.slot i)).colour, (p.binOf (p.slot i)).blink⟩ }).changeState i .toteWait).requestPlace
      (p.binOf (p.slot i)).tote i := rfl

/-- The slots at TOTE_WAIT entry, before a place is asked for. -/
theorem Part.toteWait_slot {i : SlotId} {p : Part} (h : (p.slot i).state.atWork = false) (b : BinEntry) (k : SlotId) :
    ((p.modSlot i fun s => { s with tote := some b.tote, binLamp := some ⟨b.colour, b.blink⟩ }).changeState i
      .toteWait).slot k =
      if k = i then Slot.into .toteWait { p.slot i with tote := some b.tote, binLamp := some ⟨b.colour, b.blink⟩ }
      else p.slot k := by
  rw [Part.changeState_slot_idle _ rfl, Part.modSlot_modSlot, Part.modSlot_slot]
  · simp only [eq_comm]
  · rw [Part.modSlot_slot_self]
    exact h

/-- A record sorted into an OPEN tote (R180). -/
theorem Part.sorted_of_opened {p : Part} {q : Slot} (h : (p.tote (p.binOf q).tote).state = .opened) :
    p.sorted q = { q with
      spindownTimer := none
      tote := some (p.binOf q).tote
      binLamp := some ⟨(p.binOf q).colour, (p.binOf q).blink⟩
      position := some ((p.tote (p.binOf q).tote).manifest.length + 1)
      state := .unloadReady
      lamp := ⟨(p.binOf q).colour, (p.binOf q).blink⟩
      power := false } := by
  unfold Part.binOf at h ⊢
  unfold Part.sorted
  simp only [h, decide_true, if_true]

/-- A record sorted to wait for a place (R181). -/
theorem Part.sorted_of_not_opened {p : Part} {q : Slot} (h : (p.tote (p.binOf q).tote).state ≠ .opened) :
    p.sorted q = { q with
      spindownTimer := none
      tote := some (p.binOf q).tote
      binLamp := some ⟨(p.binOf q).colour, (p.binOf q).blink⟩
      state := .toteWait
      lamp := ⟨(p.binOf q).colour, .hz1⟩
      power := false } := by
  unfold Part.binOf at h ⊢
  unfold Part.sorted
  simp only [h, decide_false, Bool.false_eq_true, if_false]

theorem Part.enterToteWait_slot {i : SlotId} {p : Part} (h : (p.slot i).state.atWork = false) (k : SlotId) :
    (p.enterToteWait i).slot k =
      if k = i then { p.sorted (p.slot i) with spindownTimer := (p.slot i).spindownTimer } else p.slot k := by
  rw [Part.enterToteWait_eq, Part.requestPlace_slot (by rw [Part.changeState_state]; rfl),
    Part.toteWait_slot h, Part.toteWait_slot h, Part.changeState_tote, Part.modSlot_tote]
  by_cases hk : k = i
  · subst hk
    by_cases ho : (p.tote (p.binOf (p.slot k)).tote).state = .opened
    · rw [if_pos ⟨rfl, ho⟩, if_pos rfl, if_pos rfl, Part.sorted_of_opened ho]
      rfl
    · rw [if_neg (fun h => ho h.2), if_pos rfl, if_pos rfl, Part.sorted_of_not_opened ho]
      rfl
  · simp [hk]

theorem Part.enterToteWait_tote {i : SlotId} {p : Part} (h : (p.slot i).state.atWork = false) (u : ToteId) :
    (p.enterToteWait i).tote u =
      if u = (p.binOf (p.slot i)).tote then
        if (p.tote u).state = .opened then p.reserved u i (p.slot i)
        else { p.tote u with wait := (p.tote u).wait ++ [i] }
      else p.tote u := by
  rw [Part.enterToteWait_eq, Part.requestPlace_tote]
  simp only [Part.changeState_tote, Part.modSlot_tote]
  split
  next hu =>
    subst hu
    split
    · rw [Part.toteWait_slot h]
      simp [Part.reserved, Slot.into, Slot.dress, Slot.manifestEntry]
    · rfl
  · rfl

end Sys2Proof.Machine

namespace Sys2Proof.Machine

/-! ## An occasion for a grant (R129, R130) -/

theorem Part.grantRoom_zero_iff (p : Part) (n : Nat) :
    p.grantRoom n = 0 ↔ ¬ (n < p.tables.rack.budget ∧ p.door.value = false) := by
  unfold Part.grantRoom
  cases p.door.value <;> simp [Nat.sub_eq_zero_iff_le]

theorem Part.grantLoop_of_no_room {p : Part} (h : p.grantRoom p.spinCount = 0) (k : Nat) : p.grantLoop k = p := by
  cases k with
  | zero => rfl
  | succ k =>
    unfold Part.grantLoop
    split
    · rfl
    · rw [if_neg ((p.grantRoom_zero_iff _).mp h)]

theorem Part.grantLoop_of_empty {p : Part} (h : p.spinQueue = []) (k : Nat) : p.grantLoop k = p := by
  cases k with
  | zero => rfl
  | succ k => unfold Part.grantLoop; rw [h]

theorem Part.grantLoop_of_room {p : Part} {i : SlotId} {rest : List SlotId} (h : p.grantRoom p.spinCount ≠ 0)
    (hq : p.spinQueue = i :: rest) (k : Nat) : p.grantLoop (k + 1) = (p.grant i rest).grantLoop k := by
  rw [Part.grantLoop, hq]
  exact if_pos (not_not.mp fun hn => h ((p.grantRoom_zero_iff _).mpr hn))

theorem Part.grant_quiet_room (p : Part) (i : SlotId) (rest : List SlotId) (n : Nat) :
    (p.grant i rest).grantRoom n = p.grantRoom n := by
  have hq := p.grant_quiet i rest
  unfold Part.grantRoom
  rw [Part.door_of_quiet hq, Part.tables_of_quiet hq]

theorem Part.grantRoom_succ {p : Part} {n : Nat} : p.grantRoom (n + 1) = p.grantRoom n - 1 := by
  unfold Part.grantRoom
  split <;> omega

theorem Part.granted_of_quiet {p t : Part} (h : t.tables = p.tables) : t.granted = p.granted := by
  funext q
  simp [Part.granted, h]

/-- What an occasion for a grant that finds no waiting slot at work leaves: the first of the queue are granted, as many
as there is room for. -/
theorem Part.grantLoop_grants (k : Nat) (p : Part) (hk : p.spinQueue.length ≤ k) (hn : p.spinQueue.Nodup)
    (hw : ∀ j ∈ p.spinQueue, (p.slot j).state.atWork = false) :
    Grants p p.spinQueue p.spinCount p.slot (p.grantLoop k) := by
  induction k generalizing p with
  | zero =>
    have he : p.spinQueue = [] := List.length_eq_zero_iff.mp (by omega)
    simp [Grants, Part.grantLoop, he]
  | succ k ih =>
    by_cases hr : p.grantRoom p.spinCount = 0
    · rw [Part.grantLoop_of_no_room hr]
      simp [Grants, hr]
    · cases hq : p.spinQueue with
      | nil =>
        rw [Part.grantLoop_of_empty hq]
        simp [Grants, hq]
      | cons i rest =>
        rw [hq] at hk hn hw
        obtain ⟨hi, hrest⟩ := List.nodup_cons.mp hn
        have hidle := hw i (by simp)
        rw [Part.grantLoop_of_room hr hq]
        obtain ⟨h1, h2, h3⟩ := ih (p.grant i rest) (by simpa using hk) (by simpa using hrest) (fun j hj => by
          rw [Part.grant_spinQueue] at hj
          rw [Part.grant_slot_idle hidle, if_neg fun e : j = i => hi (e ▸ hj)]
          exact hw j (List.mem_cons_of_mem _ hj))
        simp only [Part.grant_quiet_room, Part.grant_spinQueue, Part.grant_spinCount, Part.grantRoom_succ] at h1 h2 h3
        obtain ⟨m, hm⟩ := Nat.exists_eq_succ_of_ne_zero hr
        rw [hm] at h1 h2 h3
        simp only [Nat.succ_eq_add_one, Nat.add_sub_cancel] at h1 h2 h3
        refine ⟨?_, ?_, fun j => ?_⟩
        · rw [h1, hm]; rfl
        · rw [h2, hm, List.length_cons, Nat.succ_eq_add_one]
          omega
        · rw [h3, hm, Part.granted_of_quiet (Part.tables_of_quiet (p.grant_quiet i rest)), Nat.succ_eq_add_one,
            List.take_succ_cons, Part.grant_slot_idle hidle]
          by_cases hj : j = i
          · subst hj
            rw [if_neg fun h => hi (List.mem_of_mem_take h)]
            simp
          · simp [hj]

theorem Part.grants_grants {p : Part} (hn : p.spinQueue.Nodup)
    (hw : ∀ j ∈ p.spinQueue, (p.slot j).state.atWork = false) : Grants p p.spinQueue p.spinCount p.slot p.grants :=
  Part.grantLoop_grants _ p le_rfl hn hw

/-- The grants depend on the budget, the windows and the door alone. -/
theorem Grants.congr {p p' t : Part} {queue : List SlotId} {count : Nat} {base base' : SlotId → Slot}
    (h : Grants p queue count base t) (ht : p'.tables = p.tables) (hd : p'.door = p.door) (hb : base' = base) :
    Grants p' queue count base' t := by
  subst hb
  unfold Grants Part.grantRoom at *
  rw [Part.granted_of_quiet ht, ht, hd]
  exact h

/-- A slot that does not wait is touched by grants in ZONE_ALARM_SEEN at most. -/
theorem Part.grantLoop_like {j : SlotId} (k : Nat) (p : Part) (hj : j ∉ p.spinQueue) :
    (p.slot j).Like ((p.grantLoop k).slot j) := by
  induction k generalizing p with
  | zero => exact .refl _
  | succ k ih =>
    unfold Part.grantLoop
    split
    · exact .refl _
    next i rest hq =>
      rw [hq] at hj
      obtain ⟨hji, hjr⟩ := List.ne_and_not_mem_of_not_mem_cons hj
      split
      · have h1 := p.grant_like i rest j
        rw [if_neg hji] at h1
        exact h1.trans (ih _ (by simpa using hjr))
      · exact .refl _

theorem Part.grants_like {p : Part} {j : SlotId} (hj : j ∉ p.spinQueue) : (p.slot j).Like (p.grants.slot j) :=
  Part.grantLoop_like _ p hj

/-- Where the zones are judged, a slot that does not wait is as it was. -/
theorem Part.ZonesJudged.grantLoop_slot {j : SlotId} (k : Nat) {p : Part} (hz : p.ZonesJudged) (hj : j ∉ p.spinQueue) :
    (p.grantLoop k).slot j = p.slot j := by
  induction k generalizing p with
  | zero => rfl
  | succ k ih =>
    unfold Part.grantLoop
    split
    · rfl
    next i rest hq =>
      rw [hq] at hj
      obtain ⟨hji, hjr⟩ := List.ne_and_not_mem_of_not_mem_cons hj
      split
      · rw [ih (hz.grant i rest) (by simpa using hjr), hz.grant_slot, if_neg hji]
      · rfl

theorem Part.ZonesJudged.grants_slot {j : SlotId} {p : Part} (hz : p.ZonesJudged) (hj : j ∉ p.spinQueue) :
    p.grants.slot j = p.slot j := hz.grantLoop_slot _ hj

theorem Part.noGrantWaits_iff (p : Part) : p.NoGrantWaits ↔ p.spinQueue = [] ∨ p.grantRoom p.spinCount = 0 := by
  rw [Part.grantRoom_zero_iff]
  unfold Part.NoGrantWaits
  cases p.door.value <;> simp

/-- Where no grant waits, an occasion for one does nothing. -/
theorem Part.NoGrantWaits.grants_eq {p : Part} (h : p.NoGrantWaits) : p.grants = p := by
  obtain hq | hr := p.noGrantWaits_iff.mp h
  · exact Part.grantLoop_of_empty hq _
  · exact Part.grantLoop_of_no_room hr _

/-- After an occasion for a grant none waits. -/
theorem Part.grantLoop_noGrantWaits (k : Nat) (p : Part) (hk : p.spinQueue.length ≤ k) :
    (p.grantLoop k).NoGrantWaits := by
  induction k generalizing p with
  | zero => exact .inl (List.length_eq_zero_iff.mp (by rw [Part.grantLoop]; omega))
  | succ k ih =>
    by_cases hr : p.grantRoom p.spinCount = 0
    · rw [Part.grantLoop_of_no_room hr]
      exact p.noGrantWaits_iff.mpr (.inr hr)
    · cases hq : p.spinQueue with
      | nil => rw [Part.grantLoop_of_empty hq]; exact .inl hq
      | cons i rest =>
        rw [Part.grantLoop_of_room hr hq]
        rw [hq] at hk
        exact ih _ (by simpa using hk)

theorem Part.grants_noGrantWaits (p : Part) : p.grants.NoGrantWaits := Part.grantLoop_noGrantWaits _ p le_rfl

theorem Part.grants_of_empty {p : Part} (h : p.spinQueue = []) : p.grants = p := Part.grantLoop_of_empty h _

/-- Can a slot that joins the queue be granted at once (R129)? -/
def Part.grantsNext (p : Part) : Bool :=
  decide (p.spinQueue = [] ∧ p.spinCount < p.tables.rack.budget ∧ p.door.value = false)

/-- Where no grant waits, a slot that joins the queue is granted at once, or stays at the tail with nothing changed. -/
theorem Part.NoGrantWaits.join_grants {p : Part} (h : p.NoGrantWaits) (i : SlotId) :
    (p.joinQueue i).grants = if p.grantsNext then (p.joinQueue i).grant i [] else p.joinQueue i := by
  unfold Part.grantsNext
  by_cases hr : p.grantRoom p.spinCount = 0
  · have hn := (p.grantRoom_zero_iff _).mp hr
    rw [decide_eq_false fun hc => hn hc.2]
    exact Part.grantLoop_of_no_room (p := p.joinQueue i) hr _
  · have hq : p.spinQueue = [] := (p.noGrantWaits_iff.mp h).resolve_right hr
    have hc := not_not.mp fun hn => hr ((p.grantRoom_zero_iff _).mpr hn)
    rw [decide_eq_true ⟨hq, hc⟩]
    have hj : (p.joinQueue i).spinQueue = [i] := by simp [hq]
    unfold Part.grants
    rw [hj, List.length_singleton, Part.grantLoop_of_room (p := p.joinQueue i) hr hj]
    rfl

theorem Part.NoGrantWaits.congr {p t : Part} (h : p.NoGrantWaits) (hq : t.spinQueue = p.spinQueue)
    (hc : t.spinCount = p.spinCount) (ht : t.tables = p.tables) (hd : t.door = p.door) : t.NoGrantWaits := by
  unfold Part.NoGrantWaits at *
  rwa [hq, hc, ht, hd]

/-! ## A slot at no work joins the spin-up queue -/

/-- The record of a slot that has come to POWER_WAIT (R40). -/
def Slot.waiting (q : Slot) : Slot := q.into .powerWait

/-- A slot at no work goes to POWER_WAIT, and to SPINUP at once where the grant can be made (R128, R129): what it
leaves of the slots, and of the fields about it. -/
theorem Part.NoGrantWaits.rejoin {p : Part} {i : SlotId} (h : p.NoGrantWaits) (hw : (p.slot i).state.atWork = false) :
    let t := ((p.changeState i .powerWait).joinQueue i).grants
    (∀ j, t.slot j = if j = i then if p.grantsNext then p.granted (p.slot i).waiting else (p.slot i).waiting
      else p.slot j) ∧
    t.spinQueue = (if p.grantsNext then [] else p.spinQueue ++ [i]) ∧
    t.spinCount = p.spinCount + (if p.grantsNext then 1 else 0) ∧ t.zones = p.zones ∧ t.totes = p.totes := by
  have hc : (p.changeState i .powerWait).NoGrantWaits := h.congr (by simp) (by simp) (by simp) (by simp)
  have hg : (p.changeState i .powerWait).grantsNext = p.grantsNext := by simp [Part.grantsNext]
  have hslot : ∀ j, (p.changeState i .powerWait).slot j = if j = i then (p.slot i).waiting else p.slot j := by
    intro j
    rw [Part.changeState_slot_idle hw rfl, Part.modSlot_slot]
    simp only [eq_comm, Slot.waiting]
  have hgranted : ((p.changeState i .powerWait).joinQueue i).granted = p.granted := Part.granted_of_quiet (by simp)
  have hidle : (((p.changeState i .powerWait).joinQueue i).slot i).state.atWork = false := by
    rw [Part.joinQueue_slot, hslot, if_pos rfl]; rfl
  have hzones := Part.changeState_zones_idle (st := .powerWait) hw rfl
  simp only [hc.join_grants, hg]
  cases p.grantsNext
  · simp [hslot, hzones]
  · refine ⟨fun j => ?_, by simp, by simp, ?_, by simp⟩
    · simp only [if_true, Part.grant_slot_idle hidle, Part.joinQueue_slot, hslot, hgranted]
      by_cases hj : j = i <;> simp [hj]
    · simp [Part.grant_zones_idle hidle, hzones]

end Sys2Proof.Machine

namespace Sys2Proof.Machine

/-! ## The end of the spin-down wait and the way into it (R36, R135) -/

theorem Part.spindownOver_of_retry {i : SlotId} {p : Part} (h : (p.slot i).retry = true) :
    p.spindownOver i = (((p.modSlot i fun s => { s with spindownTimer := none }).changeState i .powerWait).joinQueue
      i).grants := by
  unfold Part.spindownOver
  simp only [h, if_true]

theorem Part.spindownOver_of_no_retry {i : SlotId} {p : Part} (h : (p.slot i).retry = false) :
    p.spindownOver i = (p.modSlot i fun s => { s with spindownTimer := none }).enterToteWait i := by
  unfold Part.spindownOver
  simp only [h, Bool.false_eq_true, if_false]

/-- Past the spin-down wait, a slot with its retry flag clear is sorted. -/
theorem Part.spindownOver_slot {i : SlotId} {p : Part} (h : (p.slot i).retry = false)
    (hw : (p.slot i).state.atWork = false) (k : SlotId) :
    (p.spindownOver i).slot k = if k = i then p.sorted (p.slot i) else p.slot k := by
  rw [Part.spindownOver_of_no_retry h, Part.enterToteWait_slot (by rw [Part.modSlot_slot_self]; exact hw),
    Part.modSlot_slot_self]
  by_cases hk : k = i
  · rw [if_pos hk, if_pos hk]; rfl
  · rw [if_neg hk, if_neg hk, Part.modSlot_slot_ne (Ne.symm hk)]

theorem Part.spindownOver_tote {i : SlotId} {p : Part} (h : (p.slot i).retry = false)
    (hw : (p.slot i).state.atWork = false) (u : ToteId) :
    (p.spindownOver i).tote u =
      if u = (p.binOf (p.slot i)).tote then
        if (p.tote u).state = .opened then p.reserved u i (p.slot i)
        else { p.tote u with wait := (p.tote u).wait ++ [i] }
      else p.tote u := by
  rw [Part.spindownOver_of_no_retry h, Part.enterToteWait_tote (by rw [Part.modSlot_slot_self]; exact hw),
    Part.modSlot_slot_self]
  rfl

theorem Part.spindownOver_spinQueue {i : SlotId} {p : Part} (h : (p.slot i).retry = false) :
    (p.spindownOver i).spinQueue = p.spinQueue := by
  rw [Part.spindownOver_of_no_retry h]; simp

theorem Part.spindownOver_spinCount {i : SlotId} {p : Part} (h : (p.slot i).retry = false) :
    (p.spindownOver i).spinCount = p.spinCount := by
  rw [Part.spindownOver_of_no_retry h]; simp

/-- The record that enters SPINDOWN with the wait started (R126, R135). -/
def Part.waitStarted (p : Part) (q : Slot) : Slot :=
  Slot.into .spindown { q with spindownTimer := some (.start p.tables.rack.spindownWait) }

/-- SPINDOWN entry but for a wait of 0. -/
def Part.startWait (i : SlotId) (p : Part) : Part :=
  (p.modSlot i fun s => { s with spindownTimer := some (.start p.tables.rack.spindownWait) }).changeState i .spindown

theorem Part.enterSpindown_eq (i : SlotId) (p : Part) :
    p.enterSpindown i =
      if p.tables.rack.spindownWait = 0 then (p.startWait i).spindownOver i else p.startWait i := rfl

theorem Part.startWait_like (i : SlotId) (p : Part) (k : SlotId) :
    (if k = i then p.waitStarted (p.slot i) else p.slot k).Like ((p.startWait i).slot k) := by
  have h := Part.changeState_like i .spindown
    (p.modSlot i fun s => { s with spindownTimer := some (.start p.tables.rack.spindownWait) }) k
  rw [Part.modSlot_modSlot, Part.modSlot_slot] at h
  by_cases hk : k = i
  · rw [if_pos hk]; rwa [if_pos hk.symm] at h
  · rw [if_neg hk]; rwa [if_neg (Ne.symm hk)] at h

theorem Part.startWait_slot {i : SlotId} {p : Part} (h : p.ZonesJudged ∨ (p.slot i).state.atWork = false) (k : SlotId) :
    (p.startWait i).slot k = if k = i then p.waitStarted (p.slot i) else p.slot k := by
  have h' : (p.startWait i).slot k = ((p.modSlot i fun s => { s with
      spindownTimer := some (.start p.tables.rack.spindownWait) }).modSlot i (·.into .spindown)).slot k := by
    obtain hz | hw := h
    · exact Part.ZonesJudged.changeState_slot (hz.modSlot i _) i _ k
    · refine Part.changeState_slot_idle ?_ rfl k
      rw [Part.modSlot_slot_self]
      exact hw
  rw [h', Part.modSlot_modSlot, Part.modSlot_slot]
  simp only [eq_comm, Part.waitStarted]

@[simp] theorem Part.startWait_spinQueue (i : SlotId) (p : Part) : (p.startWait i).spinQueue = p.spinQueue := by
  simp [Part.startWait]
@[simp] theorem Part.startWait_spinCount (i : SlotId) (p : Part) : (p.startWait i).spinCount = p.spinCount := by
  simp [Part.startWait]
@[simp] theorem Part.startWait_totes (i : SlotId) (p : Part) : (p.startWait i).totes = p.totes := by
  simp [Part.startWait]
@[simp] theorem Part.startWait_tables (i : SlotId) (p : Part) : (p.startWait i).tables = p.tables := by
  simp [Part.startWait]
@[simp] theorem Part.startWait_door (i : SlotId) (p : Part) : (p.startWait i).door = p.door := by
  simp [Part.startWait]

/-- The sort looks at the bins and the totes alone, and hands ZONE_ALARM_SEEN on. -/
theorem Part.sorted_congr {p t : Part} (ht : t.tables = p.tables) (hto : t.totes = p.totes) : t.sorted = p.sorted := by
  funext q
  have hb : t.binOf q = p.binOf q := by unfold Part.binOf; rw [ht]
  have hx : ∀ u, t.tote u = p.tote u := fun u => by unfold Part.tote; rw [hto]
  by_cases ho : (p.tote (p.binOf q).tote).state = .opened
  · rw [Part.sorted_of_opened ho, Part.sorted_of_opened (by rwa [hb, hx]), hb, hx]
  · rw [Part.sorted_of_not_opened ho, Part.sorted_of_not_opened (by rwa [hb, hx]), hb]

theorem Part.spunDown_congr {p t : Part} (ht : t.tables = p.tables) (hto : t.totes = p.totes) :
    t.spunDown = p.spunDown := by
  funext q
  simp only [Part.spunDown, ht, Part.sorted_congr ht hto]

theorem Part.sorted_seen (p : Part) (q : Slot) (b : Bool) : p.sorted (q.seen b) = (p.sorted q).seen b := rfl

theorem Part.spunDown_seen (p : Part) (q : Slot) (b : Bool) : p.spunDown (q.seen b) = (p.spunDown q).seen b := by
  unfold Part.spunDown
  split <;> rfl

theorem Part.sorted_waitStarted (p : Part) (q : Slot) : p.sorted (p.waitStarted q) = p.sorted q := rfl

/-- SPINDOWN entry: the record but for what the offer latches. -/
theorem Part.enterSpindown_like {i : SlotId} {p : Part}
    (hr : (p.slot i).retry = false ∨ 0 < p.tables.rack.spindownWait) :
    (p.spunDown (p.slot i)).Like ((p.enterSpindown i).slot i) := by
  have hl := p.startWait_like i i
  rw [if_pos rfl] at hl
  rw [Part.enterSpindown_eq]
  unfold Part.spunDown
  by_cases h0 : p.tables.rack.spindownWait = 0
  · obtain ⟨b, hb⟩ := hl
    have hretry : ((p.startWait i).slot i).retry = false := by rw [hb]; exact hr.resolve_right (by omega)
    have hidle : ((p.startWait i).slot i).state.atWork = false := by rw [hb]; rfl
    rw [if_pos h0, if_pos h0, Part.spindownOver_slot hretry hidle, if_pos rfl,
      Part.sorted_congr (p.startWait_tables i) (p.startWait_totes i), hb,
      Part.sorted_seen, Part.sorted_waitStarted]
    exact ⟨b, rfl⟩
  · rw [if_neg h0, if_neg h0]
    exact hl

/-- SPINDOWN entry where its offer latches nothing: the slot's record, and every other slot as it was. -/
theorem Part.enterSpindown_slot {i : SlotId} {p : Part} (h : p.ZonesJudged ∨ (p.slot i).state.atWork = false)
    (hr : (p.slot i).retry = false ∨ 0 < p.tables.rack.spindownWait) (k : SlotId) :
    (p.enterSpindown i).slot k = if k = i then p.spunDown (p.slot i) else p.slot k := by
  rw [Part.enterSpindown_eq]
  unfold Part.spunDown
  by_cases h0 : p.tables.rack.spindownWait = 0
  · have hs := p.startWait_slot h i
    rw [if_pos rfl] at hs
    have hretry : ((p.startWait i).slot i).retry = false := by rw [hs]; exact hr.resolve_right (by omega)
    have hidle : ((p.startWait i).slot i).state.atWork = false := by rw [hs]; rfl
    rw [if_pos h0, if_pos h0, Part.spindownOver_slot hretry hidle,
      Part.sorted_congr (p.startWait_tables i) (p.startWait_totes i), hs,
      Part.sorted_waitStarted, Part.startWait_slot h]
    by_cases hk : k = i <;> simp [hk]
  · rw [if_neg h0, if_neg h0]
    exact p.startWait_slot h k

theorem Part.enterSpindown_spinQueue {i : SlotId} {p : Part}
    (hr : (p.slot i).retry = false ∨ 0 < p.tables.rack.spindownWait) : (p.enterSpindown i).spinQueue = p.spinQueue := by
  rw [Part.enterSpindown_eq]
  split
  next h0 =>
    obtain ⟨b, hb⟩ := p.startWait_like i i
    rw [Part.spindownOver_spinQueue, Part.startWait_spinQueue]
    rw [hb, if_pos rfl]
    exact hr.resolve_right (by omega)
  · exact Part.startWait_spinQueue i p

theorem Part.enterSpindown_spinCount {i : SlotId} {p : Part}
    (hr : (p.slot i).retry = false ∨ 0 < p.tables.rack.spindownWait) : (p.enterSpindown i).spinCount = p.spinCount := by
  rw [Part.enterSpindown_eq]
  split
  next h0 =>
    obtain ⟨b, hb⟩ := p.startWait_like i i
    rw [Part.spindownOver_spinCount, Part.startWait_spinCount]
    rw [hb, if_pos rfl]
    exact hr.resolve_right (by omega)
  · exact Part.startWait_spinCount i p

end Sys2Proof.Machine

namespace Sys2Proof.Machine

/-! ## Taking a request (R5, R6) -/

theorem finN_of_lt {n a : Nat} (h : a < n + 1) : finN n a = ⟨a, h⟩ := Fin.ext (Nat.mod_eq_of_lt h)

theorem getElem_finN {α : Type} {n a : Nat} (v : Vector α (n + 1)) (h : a < n + 1) : v[finN n a] = v[a] := by
  simp only [finN_of_lt h, Fin.getElem_fin]

theorem byte_toNat_slot (i : SlotId) : (byte i.val).toNat = i.val := by
  unfold byte
  rw [BitVec.toNat_ofNat, Nat.mod_eq_of_lt (by omega)]

theorem field_singleton (k : Byte) : field [k] 0 1 = k.toNat := by simp [field, beVal]

@[simp] theorem Request.slotId_byte (source : Mac) (i : SlotId) (tag code : Byte) (body : List Byte) :
    Request.slotId ⟨source, byte i.val, tag, code, body⟩ = i := by
  unfold Request.slotId
  simp only
  rw [byte_toNat_slot, finN_of_lt i.isLt]

@[simp] theorem Request.arg_singleton (source : Mac) (slot tag code k : Byte) :
    Request.arg ⟨source, slot, tag, code, [k]⟩ = k.toNat := field_singleton k

/-- A request of a row at the head, past the general checks, is served. -/
theorem Part.take_of_head {p : Part} {r : Request} {rest : List Request} (h : p.Head r rest) {q : Req}
    (hr : reqOf r.code = some q) (hs : q.slotOk r.slot = true) (hl : q.lengthOk r.body.length = true)
    (serve : Request → Part → Answer) :
    p.take (Request.isReq q) serve =
      (serve r (p.taken r rest)).part.respond ((serve r (p.taken r rest)).response r) := by
  obtain ⟨hphase, hresp, hreq⟩ := h
  have hg : generalCheck p.loader.phase r = none := by
    unfold generalCheck
    rw [hr]
    simp [hphase, hs, hl]
  unfold Part.take
  rw [hresp, hreq]
  simp only
  rw [if_pos (by simp [Request.isReq, hr])]
  simp only [Part.modTrunk_loader, hg]
  rfl

/-- A request with a body of one byte that names a slot. -/
theorem Part.take_slot_request {p : Part} {source : Mac} {tag code k : Byte} {i : SlotId} {rest : List Request}
    (h : p.Head ⟨source, byte i.val, tag, code, [k]⟩ rest) {q : Req} (hr : reqOf code = some q)
    (hs : q.namesSlot = true) (hl : q.lengthOk 1 = true) {serve : Request → Part → Answer} {a : Answer}
    (ha : serve ⟨source, byte i.val, tag, code, [k]⟩ (p.taken ⟨source, byte i.val, tag, code, [k]⟩ rest) = a) :
    p.take (Request.isReq q) serve = a.part.respond ⟨byte i.val, tag, a.status, a.clamped, a.content⟩ := by
  rw [Part.take_of_head h hr _ hl, ha]
  · rfl
  · unfold Req.slotOk
    rw [if_pos hs]
    exact decide_eq_true (by rw [byte_toNat_slot]; exact i.isLt)

@[simp] theorem Part.taken_slot (r : Request) (rest : List Request) (p : Part) (i : SlotId) :
    (p.taken r rest).slot i = p.slot i := rfl
@[simp] theorem Part.taken_tote (r : Request) (rest : List Request) (p : Part) (t : ToteId) :
    (p.taken r rest).tote t = p.tote t := rfl
@[simp] theorem Part.taken_tables (r : Request) (rest : List Request) (p : Part) :
    (p.taken r rest).tables = p.tables := rfl
@[simp] theorem Part.taken_spinQueue (r : Request) (rest : List Request) (p : Part) :
    (p.taken r rest).spinQueue = p.spinQueue := rfl
@[simp] theorem Part.taken_spinCount (r : Request) (rest : List Request) (p : Part) :
    (p.taken r rest).spinCount = p.spinCount := rfl
@[simp] theorem Part.taken_completions (r : Request) (rest : List Request) (p : Part) :
    (p.taken r rest).trunk.completions = p.trunk.completions := rfl

/-! ## The identity probe's code (R25) -/

theorem Part.probeCode_eq_none_iff (p : Part) :
    p.probeCode = none ↔ ∀ j : Fin 64, p.tables.filters[j].valid = true → p.tables.filters[j].cls ≠ 0 := by
  unfold Part.probeCode
  rw [Option.map_eq_none_iff, List.find?_eq_none]
  simp only [Vector.mem_toList_iff, Vector.mem_iff_getElem, Bool.and_eq_true, beq_iff_eq, not_and,
    forall_exists_index, ne_eq, Fin.forall_iff]
  constructor
  · intro h j hj hv
    exact h _ j hj rfl hv
  · rintro h _ j hj rfl hv
    exact h j hj hv

/-- The code is that of the first valid class-0 entry. -/
theorem Part.probeCode_of_first {p : Part} {j : Fin 64} (hv : p.tables.filters[j].valid = true)
    (hc : p.tables.filters[j].cls = 0)
    (hf : ∀ m : Fin 64, m < j → p.tables.filters[m].valid = true → p.tables.filters[m].cls ≠ 0) :
    p.probeCode = some p.tables.filters[j].code := by
  unfold Part.probeCode
  rw [Option.map_eq_some_iff]
  refine ⟨p.tables.filters[j], ?_, rfl⟩
  rw [List.find?_eq_some_iff_getElem]
  refine ⟨by simp only [hv, hc]; rfl, j.val, by simp, by simp, fun m hm => ?_⟩
  have := hf ⟨m, by omega⟩ hm
  simp only [Fin.getElem_fin] at this
  simpa [imp_iff_not_or] using this

/-! ## START_SLOT (R23) -/

theorem Part.completionsWaiting_iff (p : Part) (i : SlotId) :
    p.completionsWaiting i = true ↔ ∃ c ∈ p.trunk.completions, c.forEntry = true ∧ c.slot = i := by
  simp [Part.completionsWaiting]

theorem Part.not_completionsWaiting_iff (p : Part) (i : SlotId) :
    p.completionsWaiting i = false ↔ ∀ c ∈ p.trunk.completions, c.forEntry = true → c.slot ≠ i := by
  simp [Part.completionsWaiting]

/-- The record at START_SLOT (R17, R23), before the spin-up queue. -/
def Slot.started (recipe : Fin 16) (q : Slot) : Slot := { q.atStart recipe with acc := .zero }

theorem Part.startSlot_eq (i : SlotId) (recipe : Fin 16) (p : Part) :
    p.startSlot i recipe = (((p.modSlot i (Slot.started recipe)).changeState i .powerWait).joinQueue i).grants := rfl

/-- Raising a notice touches the notice queue and the lost record alone. -/
theorem TrunkPort.SameButNotices.refl (t : TrunkPort) : t.SameButNotices t := rfl

theorem TrunkPort.SameButNotices.trans {t t' t'' : TrunkPort} (h : t.SameButNotices t') (h' : t'.SameButNotices t'') :
    t.SameButNotices t'' := by
  unfold TrunkPort.SameButNotices at *
  rw [h] at h'
  exact h'

theorem Part.raise_sameButNotices (b : NoticeBody) (p : Part) : p.trunk.SameButNotices (p.raise b).trunk := by
  unfold Part.raise
  split
  · exact .refl _
  · exact TrunkPort.offerNotice_quiet _ _

theorem Part.changeState_sameButNotices {p : Part} {i : SlotId} {st : SlotState} (h : (p.slot i).state.atWork = false)
    (hst : st.atWork = false) : p.trunk.SameButNotices (p.changeState i st).trunk := by
  rw [Part.changeState_idle h hst]
  exact Part.raise_sameButNotices _ (p.modSlot i _)

theorem Part.NoGrantWaits.rejoin_sameButNotices {p : Part} {i : SlotId} (h : p.NoGrantWaits)
    (hw : (p.slot i).state.atWork = false) :
    p.trunk.SameButNotices ((p.changeState i .powerWait).joinQueue i).grants.trunk := by
  have hc : (p.changeState i .powerWait).NoGrantWaits := h.congr (by simp) (by simp) (by simp) (by simp)
  have h1 : p.trunk.SameButNotices ((p.changeState i .powerWait).joinQueue i).trunk :=
    Part.changeState_sameButNotices hw rfl
  rw [hc.join_grants]
  split
  · refine h1.trans ?_
    unfold Part.grant
    refine TrunkPort.SameButNotices.trans (.refl _) (Part.changeState_sameButNotices ?_ rfl)
    rw [Part.modSlot_slot_self]
    change (((p.changeState i .powerWait).slot i).state.atWork) = false
    rw [Part.changeState_state]
    rfl
  · exact h1

/-- Settles O18: the checks in their order, and the start through `Part.NoGrantWaits.rejoin`. -/
theorem startSlotAnswers : Obligations.StartSlotAnswers := by
  intro source tag i k rest s r hhead
  constructor
  · intro st hst
    have href : s.part.startRefusal i k.toNat = some st := by
      unfold Part.startRefusal
      obtain ⟨hk, rfl⟩ | ⟨hk, hs, rfl⟩ | ⟨hk, hs, hc, rfl⟩ | ⟨hk, hs, hc, hf, rfl⟩ := hst
      · rw [if_pos (by omega)]
      · rw [if_neg (by omega), if_pos hs]
      · rw [if_neg (by omega), if_neg (by simp [hs]), if_pos ((s.part.completionsWaiting_iff i).mpr hc)]
      · rw [if_neg (by omega), if_neg (by simp [hs]),
          if_neg (by rw [(s.part.not_completionsWaiting_iff i).mpr hc]; exact Bool.false_ne_true)]
        rw [← Part.probeCode_eq_none_iff] at hf
        rw [getElem_finN _ hk, if_pos hf]
    have ha : serveStartSlot r (s.part.taken r rest) = .no st (s.part.taken r rest) := by
      unfold serveStartSlot
      rw [Request.slotId_byte, Request.arg_singleton]
      change (match s.part.startRefusal i k.toNat with | some st => _ | none => _) = _
      rw [href]
    exact congrArg (fun p => Host.Outcome.next (s.put p)) (Part.take_slot_request hhead rfl rfl rfl ha)
  · intro hk hs hc hf hcount hn
    have href : s.part.startRefusal i k.toNat = none := by
      unfold Part.startRefusal
      rw [if_neg (by omega), if_neg (by simp [hs]),
        if_neg (by rw [(s.part.not_completionsWaiting_iff i).mpr hc]; exact Bool.false_ne_true),
        getElem_finN _ hk, if_neg]
      rintro (h | h)
      · obtain ⟨j, hv, hz⟩ := hf
        exact (s.part.probeCode_eq_none_iff.mp h) j hv hz
      · exact hcount h
    have ha : serveStartSlot r (s.part.taken r rest) = .ok [] ((s.part.taken r rest).startSlot i ⟨k.toNat, hk⟩) := by
      unfold serveStartSlot
      rw [Request.slotId_byte, Request.arg_singleton]
      change (match s.part.startRefusal i k.toNat with | some st => _ | none => _) = _
      rw [href, finN_of_lt hk]
    refine ⟨(s.part.taken r rest).startSlot i ⟨k.toNat, hk⟩,
      congrArg (fun p => Host.Outcome.next (s.put p)) (Part.take_slot_request hhead rfl rfl rfl ha), ?_⟩
    have hn' : ((s.part.taken r rest).modSlot i (Slot.started ⟨k.toNat, hk⟩)).NoGrantWaits := hn
    have hw : (((s.part.taken r rest).modSlot i (Slot.started ⟨k.toNat, hk⟩)).slot i).state.atWork = false := by
      rw [Part.modSlot_slot_self]
      change (s.part.slot i).state.atWork = false
      rw [hs]
      rfl
    obtain ⟨hslot, hqueue, hcnt, hzones, htotes⟩ := hn'.rejoin hw
    have hnext : ((s.part.taken r rest).modSlot i (Slot.started ⟨k.toNat, hk⟩)).grantsNext = s.part.grantsNext := rfl
    rw [hnext] at hslot hqueue hcnt
    have hnotices := hn'.rejoin_sameButNotices hw
    rw [Part.startSlot_eq]
    refine ⟨?_, fun j hj => ?_, hqueue, hcnt, hzones, htotes,
      Part.tables_of_quiet (p := s.part.taken r rest) (by simp), hnotices⟩
    · rw [hslot, if_pos rfl, Part.modSlot_slot_self]
      unfold Part.grantsNext
      cases decide (s.part.spinQueue = [] ∧ s.part.spinCount < s.part.tables.rack.budget ∧ s.part.door.value = false)
        <;> rfl
    · rw [hslot, if_neg hj, Part.modSlot_slot_ne (Ne.symm hj)]
      rfl

end Sys2Proof.Machine

namespace Sys2Proof.Machine

/-! ## O31: the debounced lines and the seating -/

theorem Debounce.dueTo_iff (v : Bool) (d : Debounce) :
    d.dueTo v = true ↔ timerDue d.timer = true ∧ d.raw = v ∧ d.value = !v := by
  unfold Debounce.dueTo
  cases v <;> cases d.raw <;> cases d.value <;> simp

/-- A line that has shown a level for its whole window settles at it. -/
theorem Debounce.settle_of_dueTo {v : Bool} {d : Debounce} (h : d.dueTo v = true) : d.settle = ⟨v, v, none⟩ := by
  obtain ⟨_, hraw, _⟩ := (d.dueTo_iff v).mp h
  unfold Debounce.settle
  rw [← hraw]

theorem Part.seat_of_empty {i : SlotId} {p : Part} (h : (p.slot i).state = .empty) :
    p.seat i = ((p.raise (.slotSeated i)).modSlot i fun x =>
      { x with state := .seated, lamp := ⟨.amber, .steady⟩, power := false }).raise (.slotState i .empty .seated) := by
  unfold Part.seat
  rw [Part.changeState_idle (by rw [Part.raise_slot, h]; rfl) rfl, Part.raise_slot, h]
  rfl

/-- Settles O31: the lines as they are defined, and the seating as a change of state without an offer. -/
theorem presenceIsTimedAndSeats : Obligations.PresenceIsTimedAndSeats := by
  refine ⟨fun _ _ _ => rfl, fun _ _ _ => rfl, fun _ _ => rfl, fun i s => ?_⟩
  intro q due seats p
  have hdue : q.presence.dueTo true = true ↔ due := q.presence.dueTo_iff true
  refine ⟨fun hn => ?_, fun hd hs => ?_, fun hd hs => ?_⟩
  · change Host.Outcome.next (s.put (s.part.arrival i)) = .next (s.put s.part)
    unfold Part.arrival
    rw [if_neg (mt hdue.mp hn)]
  all_goals
    have hp : (s.part.modSlot i fun x => { x with presence := x.presence.settle }) = p :=
      Part.modSlot_congr (by rw [Debounce.settle_of_dueTo (hdue.mpr hd)])
    have hseats : (p.loader.phase == .ready && p.seatable i) = true ↔ seats := by
      have hslot : p.slot i = { q with presence := ⟨true, true, none⟩ } := Part.modSlot_slot_self ..
      simp only [Part.seatable, Part.present, hslot, Bool.and_eq_true, beq_iff_eq, and_true]
      rfl
    have harr : exec (.presenceArrival i) s = .next (s.put (p.when (p.loader.phase == .ready && p.seatable i)
        (Part.seat i))) := by
      change Host.Outcome.next (s.put (s.part.arrival i)) = _
      unfold Part.arrival
      rw [if_pos (hdue.mpr hd)]
      simp only [hp]
    rw [harr]
  · rw [Bool.eq_false_iff.mpr (mt hseats.mp hs), Part.when_false]
  · rw [hseats.mpr hs, Part.when_true, Part.seat_of_empty]
    rw [Part.modSlot_slot_self]
    exact hs.2.1

/-! ## O37: the end of the spin-down wait -/

/-- Settles O37: a retry goes the way of `Part.NoGrantWaits.rejoin`, the sort that of `Part.spindownOver_slot`. -/
theorem spindownWaitExpires : Obligations.SpindownWaitExpires := by
  intro i s q due
  have hexec : exec (.spindownWaitExpiry i) s = .next (s.put (s.part.spindownExpiry i)) := rfl
  have hover : due → s.part.spindownExpiry i = s.part.spindownOver i := fun hd => if_pos hd
  have hidle : due → (s.part.slot i).state.atWork = false := fun hd => by rw [hd.1]; rfl
  refine ⟨fun hn => ?_, fun hd hr hg => ?_, fun hd hr => ?_⟩
  · rw [hexec]
    exact congrArg (fun p => Host.Outcome.next (s.put p)) (if_neg hn)
  · have hg' : (s.part.modSlot i fun x => { x with spindownTimer := none }).NoGrantWaits := hg
    obtain ⟨hslot, hqueue, hcount, -, -⟩ := hg'.rejoin (i := i) (by rw [Part.modSlot_slot_self]; exact hidle hd)
    refine ⟨_, by rw [hexec, hover hd, Part.spindownOver_of_retry hr], hqueue, hcount, fun j hj => ?_, ?_⟩
    · rw [hslot, if_neg hj, Part.modSlot_slot_ne (Ne.symm hj)]
    · have hr' : q.retry = true := hr
      rw [hslot, if_pos rfl, Part.modSlot_slot_self]
      change (if s.part.grantsNext then s.part.granted (Slot.waiting { q with spindownTimer := none })
        else Slot.waiting { q with spindownTimer := none }) = _
      unfold Part.granted Part.grantsNext
      cases decide (s.part.spinQueue = [] ∧ s.part.spinCount < s.part.tables.rack.budget ∧ s.part.door.value = false)
      · rfl
      · simp only [Slot.waiting, Slot.into, Slot.dress, hr', if_true]
  · intro b old pos
    have hslot := Part.spindownOver_slot hr (hidle hd)
    have htote := Part.spindownOver_tote hr (hidle hd)
    have hb : s.part.binOf (s.part.slot i) = b := rfl
    rw [hb] at htote
    refine ⟨_, by rw [hexec, hover hd], fun j hj => by rw [hslot, if_neg hj], fun t ht => ?_,
      Part.spindownOver_spinQueue hr, fun ho => ⟨?_, ?_⟩, fun ho => ⟨?_, ?_⟩⟩
    · rw [htote, if_neg ht]
    · rw [hslot, if_pos rfl, Part.sorted_of_opened ho]
      rfl
    · have h := htote b.tote
      rw [if_pos rfl, if_pos ho] at h
      rw [h]
      unfold Part.reserved
      have ho' : (s.part.tote b.tote).state = .opened := ho
      simp only [ho']
      rfl
    · rw [hslot, if_pos rfl, Part.sorted_of_not_opened ho]
      rfl
    · have h := htote b.tote
      rwa [if_pos rfl, if_neg ho] at h

/-! ## Early ends (R31, R32) -/

@[simp] theorem Part.pushCompletion_slot (c : Completion) (p : Part) (k : SlotId) :
    (p.pushCompletion c).slot k = p.slot k := rfl

/-- Every entry of the slot that is not DONE is completed, oldest first (R31, R80). -/
theorem Part.completeOpen_completions (i : SlotId) (st : Status) (p : Part) :
    (p.completeOpen i st).trunk.completions = p.trunk.completions ++ p.endCompletions i st := by
  have hpush : ∀ (l : List Entry) (q : Part),
      (q.each l fun e q => q.pushCompletion (e.madeCompletion i st)).trunk.completions =
        q.trunk.completions ++ l.map (Entry.madeCompletion i st) := by
    intro l
    induction l with
    | nil => intro q; simp [Part.each]
    | cons e l ih =>
      intro q
      have := ih (q.pushCompletion (e.madeCompletion i st))
      unfold Part.each at this ⊢
      rw [List.foldl_cons, this]
      simp [Part.pushCompletion]
  exact hpush _ p

theorem Part.completeOpen_slot (i : SlotId) (st : Status) (p : Part) (k : SlotId) :
    (p.completeOpen i st).slot k = (p.modSlot i fun s =>
      { s with outstanding := (s.outstanding.filter fun e => !e.isProbe).map Entry.finish }).slot k := by
  have hpush : ∀ j, (p.each ((p.slot i).outstanding.filter fun e => e.live && !e.isProbe) fun e q =>
      q.pushCompletion (e.madeCompletion i st)).slot j = p.slot j := fun j =>
    Part.each_keeps (v := (·.slot j)) (f := fun (e : Entry) q => q.pushCompletion (e.madeCompletion i st))
      (fun _ _ => rfl) _ p
  unfold Part.completeOpen
  rw [Part.modSlot_slot, Part.modSlot_slot, hpush, hpush]

theorem Part.endCompletions_congr {p p' : Part} {i : SlotId} (h : (p'.slot i).outstanding = (p.slot i).outstanding)
    (st : Status) : p'.endCompletions i st = p.endCompletions i st := by
  unfold Part.endCompletions
  rw [h]

/-- All but the slots and the completions is as it was. -/
theorem Part.completeOpen_keeps {α : Type} {v : Part → α} (hc : ∀ c (q : Part), v (q.pushCompletion c) = v q)
    (hs : ∀ j f (q : Part), v (q.modSlot j f) = v q) (i : SlotId) (st : Status) (p : Part) :
    v (p.completeOpen i st) = v p := by
  unfold Part.completeOpen
  rw [hs]
  exact Part.each_keeps (fun _ _ => hc _ _) _ p

/-- A record whose lane send was cut short after `n` bytes (R76). -/
def Slot.cutOff (unit : List Byte) (n : Nat) (q : Slot) : Slot :=
  { q with laneTx := .idle, laneOut := some (.cutShort (cutUnit unit n)) }

theorem Part.cutCommand_of_other {i : SlotId} {p : Part} (h : ∀ tag unit, (p.slot i).laneTx ≠ .command tag unit) :
    p.cutCommand i = p := by
  unfold Part.cutCommand
  split
  · rfl
  · rfl
  next tag unit hc => exact absurd hc (h tag unit)

/-- A COMMAND send cut short leaves the transmitter idle and a free number of its bytes sent (R76). -/
theorem Part.cutCommand_of_command {i : SlotId} {p : Part} {tag : Byte} {unit : List Byte}
    (h : (p.slot i).laneTx = .command tag unit) :
    ∃ n, n ≤ unit.length - 1 ∧ ∀ k, (p.cutCommand i).slot k = (p.modSlot i (Slot.cutOff unit n)).slot k := by
  refine ⟨min (Config.cutLength p.fresh) (unit.length - 1), Nat.min_le_right _ _, fun k => ?_⟩
  unfold Part.cutCommand
  rw [h]
  rfl

theorem Part.cutCommand_slot (i : SlotId) (p : Part) :
    ∃ tx out, ∀ k, (p.cutCommand i).slot k = (p.modSlot i fun q => { q with laneTx := tx, laneOut := out }).slot k := by
  by_cases h : ∀ tag unit, (p.slot i).laneTx ≠ .command tag unit
  · refine ⟨(p.slot i).laneTx, (p.slot i).laneOut, fun k => ?_⟩
    rw [Part.cutCommand_of_other h, Part.modSlot_of_fixed rfl]
  · simp only [ne_eq, not_forall, not_not] at h
    obtain ⟨tag, unit, hc⟩ := h
    obtain ⟨n, -, hs⟩ := Part.cutCommand_of_command hc
    exact ⟨_, _, hs⟩

/-- RESET_LANE being sent, after whatever was being sent before (R74). -/
theorem Part.sendReset_slot (i : SlotId) (p : Part) :
    ∃ out, ∀ k, (p.sendReset i).slot k =
      (p.modSlot i fun q => { q with laneTx := .resetLane, laneOut := out }).slot k := by
  obtain ⟨tx, out, h⟩ := p.cutCommand_slot i
  refine ⟨out, fun k => ?_⟩
  unfold Part.sendReset
  rw [Part.modSlot_slot, h, h, Part.modSlot_slot_self, Part.modSlot_slot, Part.modSlot_slot]
  split <;> rfl

theorem Part.cutCommand_ledger (i : SlotId) (p : Part) : (p.cutCommand i).ledger = p.ledger := by
  unfold Part.cutCommand
  split <;> rfl

theorem Part.sendReset_ledger (i : SlotId) (p : Part) : (p.sendReset i).ledger = p.ledger := Part.cutCommand_ledger i p

/-- The record of a slot in a test that ends early (R31), as it goes into SPINDOWN. -/
def Slot.ended (c : Cause) (out : Option LaneEnd) (q : Slot) : Slot :=
  (Slot.endEarly c { q with outstanding := [], laneTx := .resetLane, laneOut := out }).dress

/-- A part in which slot `i`'s test has ended, before the spin-down (R31). -/
def Part.endTest (i : SlotId) (c : Cause) (p : Part) : Part :=
  ((((p.completeOpen i c.status).modSlot i fun s => { s with outstanding := [] }).sendReset i).modSlot i fun s =>
    (s.endEarly c).dress).leaveSpinup (p.slot i).state

theorem Part.endEarly_eq (i : SlotId) (c : Cause) (p : Part) :
    p.endEarly i c = ((p.endTest i c).enterSpindown i).when ((p.slot i).state == .spinup) Part.grants := rfl

@[simp] theorem Part.leaveSpinup_slot (was : SlotState) (p : Part) (k : SlotId) :
    (p.leaveSpinup was).slot k = p.slot k := by
  unfold Part.leaveSpinup; split <;> rfl

@[simp] theorem Part.leaveSpinup_spinQueue (was : SlotState) (p : Part) :
    (p.leaveSpinup was).spinQueue = p.spinQueue := by
  unfold Part.leaveSpinup; split <;> rfl

@[simp] theorem Part.leaveSpinup_totes (was : SlotState) (p : Part) : (p.leaveSpinup was).totes = p.totes := by
  unfold Part.leaveSpinup; split <;> rfl

theorem Part.leaveSpinup_spinCount (was : SlotState) (p : Part) :
    (p.leaveSpinup was).spinCount = if was = .spinup then p.spinCount - 1 else p.spinCount := by
  unfold Part.leaveSpinup; split <;> rfl

theorem Part.endTest_slot (i : SlotId) (c : Cause) (p : Part) :
    ∃ out, (p.endTest i c).slot i = (p.slot i).ended c out := by
  obtain ⟨out, h⟩ := ((p.completeOpen i c.status).modSlot i fun s => { s with outstanding := [] }).sendReset_slot i
  refine ⟨out, ?_⟩
  unfold Part.endTest
  rw [Part.leaveSpinup_slot, Part.modSlot_slot_self, h, Part.modSlot_slot_self, Part.modSlot_slot_self,
    Part.completeOpen_slot, Part.modSlot_slot_self]
  rfl

theorem Part.endTest_spinQueue (i : SlotId) (c : Cause) (p : Part) : (p.endTest i c).spinQueue = p.spinQueue := by
  unfold Part.endTest
  rw [Part.leaveSpinup_spinQueue, Part.modSlot_spinQueue, Part.spinQueue_of_ledger (Part.sendReset_ledger i _)]
  exact Part.completeOpen_keeps (v := Part.spinQueue) (fun _ _ => rfl) (fun _ _ _ => rfl) i c.status p

theorem Part.endTest_spinCount (i : SlotId) (c : Cause) (p : Part) :
    (p.endTest i c).spinCount = if (p.slot i).state = .spinup then p.spinCount - 1 else p.spinCount := by
  have h : (((p.completeOpen i c.status).modSlot i fun s => { s with outstanding := [] }).sendReset i).spinCount =
      p.spinCount := by
    rw [Part.spinCount_of_ledger (Part.sendReset_ledger i _)]
    exact Part.completeOpen_keeps (v := Part.spinCount) (fun _ _ => rfl) (fun _ _ _ => rfl) i c.status p
  unfold Part.endTest
  rw [Part.leaveSpinup_spinCount, Part.modSlot_spinCount, h]

theorem Part.endTest_totes (i : SlotId) (c : Cause) (p : Part) : (p.endTest i c).totes = p.totes := by
  unfold Part.endTest
  rw [Part.leaveSpinup_totes, Part.modSlot_totes, Part.totes_of_ledger (Part.sendReset_ledger i _)]
  exact Part.completeOpen_keeps (v := Part.totes) (fun _ _ => rfl) (fun _ _ _ => rfl) i c.status p

theorem Part.endTest_tables (i : SlotId) (c : Cause) (p : Part) : (p.endTest i c).tables = p.tables :=
  Part.tables_of_quiet (by simp [Part.endTest])

theorem Slot.ended_retry (c : Cause) (out : Option LaneEnd) (q : Slot) : (q.ended c out).retry = false := by
  unfold Slot.ended Slot.endEarly Slot.record
  split <;> rfl

/-- An early end leaves the slot's ended record in SPINDOWN, or past it. -/
theorem Part.endEarly_like {i : SlotId} {p : Part} (c : Cause) (h : (p.slot i).state = .spinup → i ∉ p.spinQueue) :
    ∃ out, (p.spunDown ((p.slot i).ended c out)).Like ((p.endEarly i c).slot i) := by
  obtain ⟨out, hout⟩ := p.endTest_slot i c
  refine ⟨out, ?_⟩
  have hr : ((p.endTest i c).slot i).retry = false ∨ 0 < (p.endTest i c).tables.rack.spindownWait :=
    .inl (by rw [hout, Slot.ended_retry])
  have hl := Part.enterSpindown_like hr
  rw [hout, Part.spunDown_congr (p.endTest_tables i c) (p.endTest_totes i c)] at hl
  rw [Part.endEarly_eq]
  by_cases hs : (p.slot i).state = .spinup
  · rw [beq_iff_eq.mpr hs, Part.when_true]
    refine hl.trans (Part.grants_like ?_)
    rw [Part.enterSpindown_spinQueue hr, Part.endTest_spinQueue]
    exact h hs
  · rw [beq_false_of_ne hs, Part.when_false]
    exact hl

theorem Part.endEarly_completions (i : SlotId) (c : Cause) (p : Part) :
    (p.endEarly i c).trunk.completions = p.trunk.completions ++ p.endCompletions i c.status := by
  have h := ((Part.Moves.refl i (p.completeOpen i c.status)).afterCompletions c (p.slot i).state).completions
  exact h.trans (p.completeOpen_completions i c.status)

theorem Part.sorted_state (p : Part) (q : Slot) :
    (p.sorted q).state = .toteWait ∨ (p.sorted q).state = .unloadReady := by
  unfold Part.sorted
  simp only
  split
  · exact .inr rfl
  · exact .inl rfl

/-- The pair of the cause stands in an ended record, unless one was recorded before (R35). -/
theorem Slot.ended_pair (c : Cause) (out : Option LaneEnd) (q : Slot) :
    (q.ended c out).disposition = some (q.disposition.getD c.disposition) ∧
      (q.ended c out).reason = if q.disposition = none then c.reason else q.reason := by
  unfold Slot.ended Slot.endEarly Slot.record Slot.openLane
  cases q.disposition <;> simp [Slot.dress]

/-- The test's fields of an ended record. -/
theorem Slot.ended_fields (c : Cause) (out : Option LaneEnd) (q : Slot) :
    (q.ended c out).outstanding = [] ∧ (q.ended c out).lane = .opened ∧ (q.ended c out).laneTx = .resetLane ∧
      (q.ended c out).recoveryTimer = none ∧ (q.ended c out).noShowTimer = none ∧
      (q.ended c out).silenceTimer = none ∧ (q.ended c out).stage1 = false ∧ (q.ended c out).spinupTimer = none := by
  unfold Slot.ended Slot.endEarly Slot.record Slot.openLane
  cases q.disposition <;> simp [Slot.dress]

/-- What the statements say of an early end holds of a record that has ended so. -/
theorem endedEarly_of_like {i : SlotId} {c : Cause} {p t : Part} {out : Option LaneEnd}
    (h : (p.spunDown ((p.slot i).ended c out)).Like (t.slot i)) : EndedEarly i c p t := by
  obtain ⟨b, hb⟩ := h
  obtain ⟨h1, h2, h3, h4, h5, h6, h7, h8⟩ := (p.slot i).ended_fields c out
  obtain ⟨hd, hr⟩ := (p.slot i).ended_pair c out
  have hretry := (p.slot i).ended_retry c out
  unfold Part.spunDown at hb
  unfold EndedEarly
  by_cases h0 : p.tables.rack.spindownWait = 0
  · rw [if_pos h0] at hb
    rw [hb]
    exact ⟨h1, h2, h3, h4, h5, h6, h7, h8, rfl, hretry, hd, hr, fun hw => absurd h0 (by omega),
      fun _ => ⟨p.sorted_state _, rfl⟩⟩
  · rw [if_neg h0] at hb
    rw [hb]
    exact ⟨h1, h2, h3, h4, h5, h6, h7, h8, rfl, hretry, hd, hr, fun _ => ⟨rfl, rfl, rfl⟩, fun hw => absurd hw h0⟩

/-- The statement looks at the record and the tables before alone. -/
theorem EndedEarly.congr {i : SlotId} {c : Cause} {p p' t : Part} (h : EndedEarly i c p t)
    (hd : (p'.slot i).disposition = (p.slot i).disposition) (hr : (p'.slot i).reason = (p.slot i).reason)
    (ht : p'.tables = p.tables) : EndedEarly i c p' t := by
  unfold EndedEarly at *
  simp only [hd, hr, ht]
  exact h

theorem Part.endEarly_endedEarly {i : SlotId} {p : Part} (c : Cause)
    (h : (p.slot i).state = .spinup → i ∉ p.spinQueue) : EndedEarly i c p (p.endEarly i c) := by
  obtain ⟨out, hl⟩ := Part.endEarly_like c h
  exact endedEarly_of_like hl

/-! ## O38: a current fault -/

theorem Part.endEarly_spinCount {i : SlotId} {p : Part} (c : Cause) (h : p.spinQueue = []) :
    (p.endEarly i c).spinCount = if (p.slot i).state = .spinup then p.spinCount - 1 else p.spinCount := by
  obtain ⟨out, hout⟩ := p.endTest_slot i c
  have hr : ((p.endTest i c).slot i).retry = false ∨ 0 < (p.endTest i c).tables.rack.spindownWait :=
    .inl (by rw [hout, Slot.ended_retry])
  have hq : ((p.endTest i c).enterSpindown i).spinQueue = [] := by
    rw [Part.enterSpindown_spinQueue hr, Part.endTest_spinQueue, h]
  rw [Part.endEarly_eq, ← Part.endTest_spinCount i c, ← Part.enterSpindown_spinCount hr]
  cases (p.slot i).state == .spinup
  · rfl
  · rw [Part.when_true, Part.grants_of_empty hq]

/-- Settles O38: a current fault of a powered slot is an early end. -/
theorem currentFaultEndsTest : Obligations.CurrentFaultEndsTest := by
  intro i s
  have hexec : exec (.currentFault i) s = .next (s.put (s.part.currentFault i)) := rfl
  refine ⟨fun hp => ?_, fun hp hs hq => ?_⟩
  · rw [hexec]
    exact congrArg (fun p => Host.Outcome.next (s.put p)) (if_neg (by rw [hp]; exact Bool.false_ne_true))
  · have hend : s.part.currentFault i = s.part.endEarly i .powerFault := by
      unfold Part.currentFault Part.endIn
      rw [if_pos hp, if_pos hs]
    exact ⟨s.part.endEarly i .powerFault, by rw [hexec, hend], Part.endEarly_endedEarly _ fun _ => hq,
      Part.endEarly_completions i _ _, Part.endEarly_spinCount _⟩

/-! ## O43: the end of a lane recovery -/

/-- A lane that opens takes up the oldest QUEUED entry if it is idle (R74). -/
theorem Slot.kick_openLane (q : Slot) :
    q.openLane.kick = { q with lane := .opened, recoveryTimer := none, laneTx := q.takesUp } := by
  unfold Slot.kick Slot.openLane Slot.takesUp
  by_cases h : q.laneTx = .idle
  · simp only [h, and_self, if_true]
    cases hf : q.outstanding.find? fun e => e.state == .queued with
    | none => simp only [← h]
    | some e => rfl
  · simp only [h, false_and, if_false]

/-- Settles O43: LANE_READY opens the lane, and the window's expiry is an early end. -/
theorem laneRecoveryEnds : Obligations.LaneRecoveryEnds := by
  intro i s q
  have hready : exec (.laneReady i) s = .next (s.put (s.part.laneReady i)) := rfl
  have hover : exec (.laneRecoveryWindowExpiry i) s = .next (s.put (s.part.recoveryOver i)) := rfl
  refine ⟨fun hl => ?_, fun hl => ?_, fun hl => ?_, fun hl hd hs => ?_⟩
  · rw [hready]
    refine congrArg (fun p => Host.Outcome.next (s.put p)) (if_neg ?_)
    change ¬ q.lane = .recovering
    rw [hl]; decide
  · rw [hready]
    have hp : s.part.laneReady i = (s.part.modSlot i fun x => x.openLane.kick).laneNotice i .recovered 0 := if_pos hl
    have hm : (s.part.modSlot i fun x => x.openLane.kick) = s.part.modSlot i fun x =>
        { x with lane := .opened, recoveryTimer := none, laneTx := x.takesUp } :=
      Part.modSlot_congr (Slot.kick_openLane _)
    rw [hp, hm]
    unfold Part.laneNotice
    rw [Part.modSlot_slot_self]
  · rw [hover]
    refine congrArg (fun p => Host.Outcome.next (s.put p)) (if_neg fun hc => ?_)
    obtain ho | ht := hl
    · have hc1 : q.lane = .recovering := hc.1
      rw [ho] at hc1
      cases hc1
    · exact Bool.false_ne_true (ht.symm.trans hc.2)
  · have hwork : (s.part.slot i).state.atWork = true ∧ (s.part.slot i).state ≠ .spinup := by
      have hs' : q.state = .running ∨ q.state = .condemned ∨ q.state = .draining := by simpa using hs
      change q.state.atWork = true ∧ q.state ≠ .spinup
      obtain h | h | h := hs' <;> rw [h] <;> decide
    have hend : s.part.recoveryOver i =
        ((s.part.modSlot i fun x => { x with recoveryTimer := none }).laneNotice i .failed 0).endEarly i
          .unresponsive := by
      unfold Part.recoveryOver Part.endIn Part.laneNotice
      rw [if_pos ⟨hl, hd⟩, if_pos]
      rw [Part.raise_slot, Part.modSlot_slot_self]
      exact hwork.1
    refine ⟨_, by rw [hover, hend], ?_, ?_⟩
    · refine EndedEarly.congr (Part.endEarly_endedEarly _ fun h => absurd h ?_) ?_ ?_ ?_
      · simpa [Part.laneNotice] using hwork.2
      all_goals simp [Part.laneNotice]
    · rw [Part.endEarly_completions]
      have hc := (Part.Moves.raise (Part.Moves.edit (.refl i s.part) (fun x => { x with recoveryTimer := none }) id)
        (.laneRecovery i .failed 0
          ((s.part.modSlot i fun x => { x with recoveryTimer := none }).slot i).recoveries)).completions
      unfold Part.laneNotice
      rw [hc]
      exact congrArg (s.part.trunk.completions ++ ·) (Part.endCompletions_congr (by simp) _)

end Sys2Proof.Machine

namespace Sys2Proof.Machine

/-! ## Aborts (R33, R34) -/

/-- A pair recorded together, unless one stands (R35). -/
theorem Slot.record_eq (d : Fin 9) (r : Reason) (q : Slot) :
    q.record d r = { q with
      disposition := some (q.disposition.getD d)
      reason := if q.disposition = none then r else q.reason } := by
  unfold Slot.record
  split
  next h => rw [h]; rfl
  next d' h =>
    have hd : some (q.disposition.getD d) = q.disposition := by rw [h]; rfl
    rw [hd, if_neg (by simp [h])]

/-- The record of a slot that is aborted in POWER_WAIT, on its way to TOTE_WAIT. -/
def Slot.aborted (c : Cause) (q : Slot) : Slot :=
  { q with
    retry := false
    disposition := some (q.disposition.getD c.disposition)
    reason := if q.disposition = none then c.reason else q.reason }

theorem Part.abort_powerWait {i : SlotId} {p : Part} (h : (p.slot i).state = .powerWait) (c : Cause) :
    p.abort i c = ((p.leaveQueue i).modSlot i (Slot.aborted c)).enterToteWait i := by
  unfold Part.abort
  rw [if_pos h]
  refine congrArg (Part.enterToteWait i) (Part.modSlot_congr ?_)
  rw [Slot.record_eq]
  rfl

theorem Part.abort_powerWait_slot {i : SlotId} {p : Part} (h : (p.slot i).state = .powerWait) (c : Cause) (k : SlotId) :
    (p.abort i c).slot k =
      if k = i then { p.sorted ((p.slot i).aborted c) with spindownTimer := (p.slot i).spindownTimer }
      else p.slot k := by
  have hidle : (((p.leaveQueue i).modSlot i (Slot.aborted c)).slot i).state.atWork = false := by
    rw [Part.modSlot_slot_self]
    change (p.slot i).state.atWork = false
    rw [h]; rfl
  rw [Part.abort_powerWait h, Part.enterToteWait_slot hidle, Part.modSlot_slot_self]
  by_cases hk : k = i
  · rw [if_pos hk, if_pos hk]; rfl
  · rw [if_neg hk, if_neg hk, Part.modSlot_slot_ne (Ne.symm hk)]; rfl

theorem Part.abort_powerWait_spinQueue {i : SlotId} {p : Part} (h : (p.slot i).state = .powerWait) (c : Cause) :
    (p.abort i c).spinQueue = p.spinQueue.filter fun j => j ≠ i := by
  rw [Part.abort_powerWait h, Part.enterToteWait_spinQueue, Part.modSlot_spinQueue, Part.leaveQueue_spinQueue]
  exact List.filter_congr fun j _ => by rw [Bool.eq_iff_iff]; simp

theorem Part.abort_powerWait_spinCount {i : SlotId} {p : Part} (h : (p.slot i).state = .powerWait) (c : Cause) :
    (p.abort i c).spinCount = p.spinCount := by
  rw [Part.abort_powerWait h, Part.enterToteWait_spinCount]
  rfl

theorem Part.abort_powerWait_completions {i : SlotId} {p : Part} (h : (p.slot i).state = .powerWait) (c : Cause) :
    (p.abort i c).trunk.completions = p.trunk.completions := by
  rw [Part.abort_powerWait h]
  refine (Part.Moves.edit ((Part.Moves.refl i p).step .leave) _ fun hd => ?_).enterToteWait.completions
  exact hd

theorem Part.abort_powered {i : SlotId} {p : Part} (h : (p.slot i).state.powered = true) (c : Cause) :
    p.abort i c = p.endEarly i c := by
  unfold Part.abort Part.endIn
  rw [if_neg (fun hp => by rw [hp] at h; cases h), if_pos h]

theorem Part.abort_elsewhere {i : SlotId} {p : Part} (h : (p.slot i).state.abortable = false) (c : Cause) :
    p.abort i c = p := by
  unfold Part.abort Part.endIn
  rw [if_neg (fun hp => by rw [hp] at h; cases h), if_neg]
  intro hp
  cases hs : (p.slot i).state <;> rw [hs] at h hp <;> cases h <;> cases hp

theorem SlotState.abortable_of_powered {st : SlotState} (h : st.powered = true) : st.abortable = true := by
  cases st <;> simp_all [SlotState.powered, SlotState.abortable]

/-- Settles O20: the checks in their order, and the abort by the slot's state. -/
theorem abortSlotAnswers : Obligations.AbortSlotAnswers := by
  intro source tag i k rest s r q c hhead
  have hanswer : ∀ {a : Answer}, serveAbortSlot r (s.part.taken r rest) = a →
      exec .abortSlot s = .next (s.put (a.part.respond ⟨byte i.val, tag, a.status, a.clamped, a.content⟩)) :=
    fun ha => congrArg (fun p => Host.Outcome.next (s.put p)) (Part.take_slot_request hhead rfl rfl rfl ha)
  have hserve : serveAbortSlot r (s.part.taken r rest) =
      if 1 < k.toNat then .no .badValue (s.part.taken r rest)
      else if !q.state.abortable then .no .wrongState (s.part.taken r rest)
      else .ok [] ((s.part.taken r rest).abort i c) := by
    unfold serveAbortSlot
    rw [Request.slotId_byte, Request.arg_singleton]
    have hc : (if k.toNat = 0 then Cause.serverReturn else Cause.serverReject) = c := by
      have hk : k.toNat = 0 ↔ k = 0 :=
        ⟨fun h => BitVec.eq_of_toNat_eq h, fun h => by rw [h]; rfl⟩
      simp only [hk]
      rfl
    rw [hc]
    rfl
  refine ⟨fun hk => ?_, fun hk hs => ?_, fun hk hs => ?_, fun hk hs hq => ?_⟩
  · exact hanswer (a := .no .badValue (s.part.taken r rest)) (by rw [hserve, if_pos hk])
  · have ha : q.state.abortable = false := by
      simp only [List.mem_cons, List.not_mem_nil, or_false] at hs
      obtain h | h | h | h | h := hs <;> rw [h] <;> rfl
    exact hanswer (a := .no .wrongState (s.part.taken r rest)) (by rw [hserve, if_neg (by omega), ha]; rfl)
  · have hok := hanswer (a := .ok [] ((s.part.taken r rest).abort i c)) (by rw [hserve, if_neg (by omega), hs]; rfl)
    have hs' : ((s.part.taken r rest).slot i).state = .powerWait := hs
    have hslot := Part.abort_powerWait_slot hs' c
    have hself := hslot i
    rw [if_pos rfl] at hself
    refine ⟨(s.part.taken r rest).abort i c, hok, Part.abort_powerWait_spinQueue hs' c,
      Part.abort_powerWait_spinCount hs' c, ?_, ?_, ?_, ?_, ?_,
      fun j hj => by rw [hslot, if_neg hj]; rfl⟩ <;> rw [hself]
    · exact Part.sorted_state _ _
    all_goals rfl
  · have ha : q.state.abortable = true := SlotState.abortable_of_powered hs
    have hok := hanswer (a := .ok [] ((s.part.taken r rest).abort i c)) (by rw [hserve, if_neg (by omega), ha]; rfl)
    rw [Part.abort_powered (p := s.part.taken r rest) hs] at hok
    have hend := Part.endEarly_endedEarly (p := s.part.taken r rest) c fun _ => hq
    refine ⟨(s.part.taken r rest).endEarly i c, hok, hend.congr rfl rfl rfl, ?_⟩
    rw [Part.endEarly_completions]
    have hst : c.status = .aborted := by
      by_cases h0 : k = 0
      · simp only [c, h0, if_true]
      · simp only [c, h0, if_false]
    rw [hst]
    rfl

/-! ## O33: the eject button -/

/-- Neither an early end nor the spin-down touches the eject hold (R170). -/
theorem Slot.ended_hold (c : Cause) (out : Option LaneEnd) (q : Slot) :
    (q.ended c out).hold = q.hold ∧ (q.ended c out).holdTimer = q.holdTimer := by
  unfold Slot.ended Slot.endEarly
  rw [Slot.record_eq]
  exact ⟨rfl, rfl⟩

theorem Part.spunDown_hold (p : Part) (q : Slot) :
    (p.spunDown q).hold = q.hold ∧ (p.spunDown q).holdTimer = q.holdTimer := by
  unfold Part.spunDown
  split <;> exact ⟨rfl, rfl⟩

/-- Settles O33: the button's own record, and the abort of its expiry. -/
theorem ejectButtonHolds : Obligations.EjectButtonHolds := by
  intro i s q pressDue releaseDue holdDue
  have hpress : q.eject.dueTo true = true ↔ pressDue := q.eject.dueTo_iff true
  have hrelease : q.eject.dueTo false = true ↔ releaseDue := q.eject.dueTo_iff false
  have hnone : ∀ {f : Part → Part} {c : Instr}, exec c s = .next (s.put (f s.part)) → f s.part = s.part →
      exec c s = .next s := fun h hf => by rw [h, hf]; rfl
  have hput : ∀ {p p' : Part}, p = p' →
      Host.Outcome.next (s.put p) = (.next (s.put p') : Host.Outcome State Fault Refusal) :=
    fun h => by rw [h]
  let p1 := s.part.modSlot i fun x => { x with hold := .spent, holdTimer := none }
  have hq1 : p1.slot i = { q with hold := .spent, holdTimer := none } := Part.modSlot_slot_self ..
  have hover : holdDue → exec (.ejectHoldExpiry i) s = .next (s.put (p1.abort i .operator)) :=
    fun hd => hput (if_pos hd)
  refine ⟨fun hn => ?_, fun hd => ?_, fun hn => ?_, fun hd => ?_, fun hn => ?_, fun hd hs => ?_, fun hd hs => ?_,
    fun hd hs hq => ?_⟩
  · exact hnone (f := Part.ejectPress i) rfl (if_neg (mt hpress.mp hn))
  · refine hput ((if_pos (hpress.mpr hd)).trans (Part.modSlot_congr ?_))
    rw [Debounce.settle_of_dueTo (hpress.mpr hd)]
    by_cases hh : (s.part.slot i).hold = .idle
    · rw [if_pos hh, if_pos hh, if_pos hh]; rfl
    · rw [if_neg hh, if_neg hh, if_neg hh]
  · exact hnone (f := Part.ejectRelease i) rfl (if_neg (mt hrelease.mp hn))
  · refine hput ((if_pos (hrelease.mpr hd)).trans (Part.modSlot_congr ?_))
    rw [Debounce.settle_of_dueTo (hrelease.mpr hd)]
  · exact hnone (f := Part.holdOver i) rfl (if_neg hn)
  · rw [hover hd, Part.abort_elsewhere]
    rw [hq1]
    simp only [List.mem_cons, List.not_mem_nil, or_false] at hs
    obtain h | h | h | h | h := hs <;> simp only [h] <;> rfl
  · have hs1 : (p1.slot i).state = .powerWait := by rw [hq1]; exact hs
    have hslot := Part.abort_powerWait_slot hs1 .operator
    refine ⟨_, hover hd, Part.abort_powerWait_spinQueue hs1 _, Part.abort_powerWait_spinCount hs1 _, fun j hj => ?_,
      Part.abort_powerWait_completions hs1 _, ?_⟩
    · rw [hslot, if_neg hj]
      exact Part.modSlot_slot_ne (Ne.symm hj) _ _
    · rw [hslot, if_pos rfl, hq1]
      rfl
  · have hs1 : (p1.slot i).state.powered = true := by rw [hq1]; exact hs
    rw [Part.abort_powered hs1] at hover
    obtain ⟨out, hl⟩ := Part.endEarly_like (p := p1) .operator fun _ => hq
    have hend := endedEarly_of_like hl
    obtain ⟨b, hb⟩ := hl
    refine ⟨_, hover hd, hend.congr ?_ ?_ rfl, ?_, ?_, ?_⟩
    · rw [hq1]
    · rw [hq1]
    · rw [hb, hq1]
      exact (s.part.spunDown_hold _).1.trans (Slot.ended_hold _ _ _).1
    · rw [hb, hq1]
      exact (s.part.spunDown_hold _).2.trans (Slot.ended_hold _ _ _).2
    · rw [Part.endEarly_completions]
      exact congrArg (s.part.trunk.completions ++ ·) (Part.endCompletions_congr (by rw [hq1]) _)

end Sys2Proof.Machine

namespace Sys2Proof.Machine

/-! ## No-shows (R27) -/

/-- The record of a slot at a no-show, as it goes into SPINDOWN (R27, R35, R86). -/
def Slot.noShown (out : Option LaneEnd) (q : Slot) : Slot :=
  { q with
    outstanding := []
    noShowTimer := none
    lane := .opened
    recoveryTimer := none
    laneTx := .resetLane
    laneOut := out
    retry := !q.retry
    disposition := if q.retry then some (q.disposition.getD 7) else q.disposition
    reason := if q.retry ∧ q.disposition = none then .noShow else q.reason }

/-- A no-show but for the spin-down. -/
def Part.noShowStart (i : SlotId) (p : Part) : Part :=
  ((p.modSlot i fun s => { s with outstanding := [], noShowTimer := none }).sendReset i).modSlot i fun s =>
    if s.retry then ({ s.openLane with retry := false }).record 7 .noShow else { s.openLane with retry := true }

theorem Part.noShow_eq (i : SlotId) (p : Part) : p.noShow i = (p.noShowStart i).enterSpindown i := rfl

theorem Part.noShowStart_slot (i : SlotId) (p : Part) :
    ∃ out, ∀ k, (p.noShowStart i).slot k = if k = i then (p.slot i).noShown out else p.slot k := by
  obtain ⟨out, h⟩ := (p.modSlot i fun s => { s with outstanding := [], noShowTimer := none }).sendReset_slot i
  refine ⟨out, fun k => ?_⟩
  unfold Part.noShowStart
  by_cases hk : k = i
  · subst hk
    rw [if_pos rfl, Part.modSlot_slot_self, h, Part.modSlot_slot_self, Part.modSlot_slot_self]
    simp only [Slot.record_eq, Slot.noShown, Slot.openLane]
    cases (p.slot k).retry <;> simp
  · rw [if_neg hk, Part.modSlot_slot_ne (Ne.symm hk), h, Part.modSlot_slot_ne (Ne.symm hk),
      Part.modSlot_slot_ne (Ne.symm hk)]

theorem Part.noShowStart_ledger (i : SlotId) (p : Part) : (p.noShowStart i).ledger = p.ledger :=
  Part.sendReset_ledger i _

theorem Part.noShowStart_quiet (i : SlotId) (p : Part) : (p.noShowStart i).quiet = p.quiet := by
  simp [Part.noShowStart]

/-- A no-show that waits, or that is the second, is spun down; nothing else moves. -/
theorem Part.noShow_slot {i : SlotId} {p : Part} (hw : (p.slot i).state.atWork = false)
    (hr : 0 < p.tables.rack.spindownWait ∨ (p.slot i).retry = true) :
    (∃ out, ∀ k, (p.noShow i).slot k = if k = i then p.spunDown ((p.slot i).noShown out) else p.slot k) ∧
      (p.noShow i).spinQueue = p.spinQueue ∧ (p.noShow i).spinCount = p.spinCount := by
  obtain ⟨out, h⟩ := p.noShowStart_slot i
  have hi := h i
  rw [if_pos rfl] at hi
  have htables := Part.tables_of_quiet (p.noShowStart_quiet i)
  have hledger := p.noShowStart_ledger i
  have hr' : ((p.noShowStart i).slot i).retry = false ∨ 0 < (p.noShowStart i).tables.rack.spindownWait := by
    rw [hi, htables]
    refine hr.symm.imp_left fun hr => ?_
    change (!(p.slot i).retry) = false
    rw [hr]; rfl
  rw [Part.noShow_eq]
  refine ⟨⟨out, fun k => ?_⟩, ?_, ?_⟩
  · rw [Part.enterSpindown_slot (.inr (by rw [hi]; exact hw)) hr', hi, h,
      Part.spunDown_congr htables (Part.totes_of_ledger hledger)]
    by_cases hk : k = i <;> simp [hk]
  · rw [Part.enterSpindown_spinQueue hr', Part.spinQueue_of_ledger hledger]
  · rw [Part.enterSpindown_spinCount hr', Part.spinCount_of_ledger hledger]

/-- The record of a first no-show past a wait of 0, in the queue again. -/
def Slot.rejoined (q : Slot) : Slot :=
  { q with state := .powerWait, lamp := ⟨.green, .hz1⟩, power := false, spindownTimer := none }

/-- A first no-show past a wait of 0 is in the queue's tail, and whatever there is room for is granted. -/
theorem Part.noShow_grants {i : SlotId} {p : Part} (hw : (p.slot i).state.atWork = false)
    (h0 : p.tables.rack.spindownWait = 0) (hr : (p.slot i).retry = false) (hn : (p.spinQueue ++ [i]).Nodup)
    (hq : ∀ j ∈ p.spinQueue, (p.slot j).state.atWork = false) :
    (∃ out, Grants p (p.spinQueue ++ [i]) p.spinCount
      (fun k => if k = i then ((p.slot i).noShown out).rejoined else p.slot k) (p.noShow i)) ∧
    (p.noShow i).NoGrantWaits := by
  obtain ⟨out, h⟩ := p.noShowStart_slot i
  have hi := h i
  rw [if_pos rfl] at hi
  have htables := Part.tables_of_quiet (p.noShowStart_quiet i)
  have hdoor := Part.door_of_quiet (p.noShowStart_quiet i)
  have hledger := p.noShowStart_ledger i
  have hstart : ∀ k, ((p.noShowStart i).startWait i).slot k =
      if k = i then p.waitStarted ((p.slot i).noShown out) else p.slot k := by
    intro k
    rw [Part.startWait_slot (.inr (by rw [hi]; exact hw)), hi, h]
    by_cases hk : k = i
    · rw [if_pos hk, if_pos hk]
      unfold Part.waitStarted
      rw [htables]
    · rw [if_neg hk, if_neg hk, if_neg hk]
  have hretry : (((p.noShowStart i).startWait i).slot i).retry = true := by
    rw [hstart, if_pos rfl]
    change (!(p.slot i).retry) = true
    rw [hr]; rfl
  have hover : p.noShow i = (((((p.noShowStart i).startWait i).modSlot i fun s =>
      { s with spindownTimer := none }).changeState i .powerWait).joinQueue i).grants := by
    rw [Part.noShow_eq, Part.enterSpindown_eq, htables, if_pos h0, Part.spindownOver_of_retry hretry]
  generalize hx : (((((p.noShowStart i).startWait i).modSlot i fun s =>
      { s with spindownTimer := none }).changeState i .powerWait).joinQueue i) = x at hover
  have hslot : x.slot = fun k => if k = i then ((p.slot i).noShown out).rejoined else p.slot k := by
    funext k
    rw [← hx, Part.joinQueue_slot, Part.changeState_slot_idle _ rfl, Part.modSlot_modSlot, Part.modSlot_slot]
    · by_cases hk : k = i
      · rw [if_pos hk.symm, if_pos hk, hstart, if_pos rfl]; rfl
      · rw [if_neg (Ne.symm hk), if_neg hk, hstart, if_neg hk]
    · rw [Part.modSlot_slot_self, hstart, if_pos rfl]; rfl
  have hqueue : x.spinQueue = p.spinQueue ++ [i] := by
    rw [← hx, Part.joinQueue_spinQueue, Part.changeState_spinQueue, Part.modSlot_spinQueue, Part.startWait_spinQueue,
      Part.spinQueue_of_ledger hledger]
  have hcount : x.spinCount = p.spinCount := by
    rw [← hx]
    simp [Part.spinCount_of_ledger hledger]
  have hgrants : Grants x x.spinQueue x.spinCount x.slot x.grants := by
    refine Part.grants_grants (by rwa [hqueue]) fun j hj => ?_
    rw [hqueue] at hj
    rw [hslot]
    simp only
    split
    · rfl
    next hji => exact hq j ((List.mem_append.mp hj).resolve_right (by simpa using hji))
  rw [hover]
  refine ⟨⟨out, ?_⟩, x.grants_noGrantWaits⟩
  rw [hqueue, hcount, hslot] at hgrants
  refine hgrants.congr ?_ ?_ rfl
  · rw [← hx]; simp [htables]
  · rw [← hx]; simp [hdoor]

theorem Part.spunDown_laneOut (p : Part) (q : Slot) : (p.spunDown q).laneOut = q.laneOut := by
  unfold Part.spunDown; split <;> rfl

/-- Grants leave the last lane unit as it was. -/
theorem Grants.laneOut {p t : Part} {queue : List SlotId} {count : Nat} {base : SlotId → Slot}
    (h : Grants p queue count base t) (i : SlotId) : (t.slot i).laneOut = (base i).laneOut := by
  obtain ⟨-, -, h⟩ := h
  rw [h]
  split <;> rfl

/-- A no-show of a slot at no work is one as the statements have it. -/
theorem Part.noShow_noShow {i : SlotId} {p : Part} (hw : (p.slot i).state.atWork = false)
    (hq : 0 < p.tables.rack.spindownWait ∨
      ((p.spinQueue ++ [i]).Nodup ∧ ∀ j ∈ p.spinQueue, (p.slot j).state.atWork = false)) :
    NoShow i p (p.noShow i) := by
  refine ⟨fun hr => ?_, fun h0 hr => ?_⟩
  · obtain ⟨⟨out, h⟩, -, -⟩ := Part.noShow_slot hw hr
    have hi := h i
    rw [if_pos rfl] at hi
    rw [show ((p.noShow i).slot i).laneOut = out by rw [hi, Part.spunDown_laneOut]; rfl]
    exact hi
  · obtain ⟨hn, hidle⟩ := hq.resolve_left (by omega)
    obtain ⟨⟨out, h⟩, -⟩ := Part.noShow_grants hw h0 hr hn hidle
    have hout := h.laneOut i
    rw [if_pos rfl] at hout
    rw [show ((p.noShow i).slot i).laneOut = out from hout]
    exact h

/-- Sound queues have no slot at work in the spin-up queue, and none twice (R128). -/
theorem Part.QueuesSound.spin {p : Part} (h : p.QueuesSound) :
    p.spinQueue.Nodup ∧ ∀ j ∈ p.spinQueue, (p.slot j).state.atWork = false := by
  obtain ⟨hn, hm, -⟩ := h
  exact ⟨hn, fun j hj => by rw [(hm j).mp hj]; rfl⟩

theorem Part.QueuesSound.not_mem {p : Part} (h : p.QueuesSound) {i : SlotId} (hs : (p.slot i).state ≠ .powerWait) :
    i ∉ p.spinQueue := fun hi => hs ((h.2.1 i).mp hi)

/-- A slot outside a sound spin-up queue can join it. -/
theorem Part.QueuesSound.spin_join {p : Part} (h : p.QueuesSound) {i : SlotId} (hi : i ∉ p.spinQueue) :
    (p.spinQueue ++ [i]).Nodup := by
  rw [← List.concat_eq_append]
  exact h.spin.1.concat hi

theorem Part.noShow_completions (i : SlotId) (p : Part) :
    (p.noShow i).trunk.completions = p.trunk.completions := (Part.Moves.refl i p).noShow.completions

theorem Part.noShow_tables (i : SlotId) (p : Part) : (p.noShow i).tables = p.tables :=
  Part.tables_of_quiet (Part.Moves.refl i p).noShow.quiet

end Sys2Proof.Machine

namespace Sys2Proof.Machine

/-! ## O35: the end of the spin-up window -/

theorem Part.enterIdent_of_none {i : SlotId} {p : Part} (h : p.probeCode = none) :
    p.enterIdent i = (p.changeState i .ident).noShow i := by
  unfold Part.enterIdent
  rw [h]

theorem Part.enterIdent_of_some {i : SlotId} {p : Part} {code : Byte} (h : p.probeCode = some code) :
    p.enterIdent i = (p.changeState i .ident).modSlot i fun s =>
      { s with outstanding := [probeEntry code], noShowTimer := some (.start p.tables.rack.noShowWindow) }.kick := by
  unfold Part.enterIdent
  rw [h]

/-- The state that a slot is in at a no-show leaves no trace: SPINDOWN and what follows it are entered alike. -/
theorem Part.spunDown_into_noShown (p : Part) (st : SlotState) (out : Option LaneEnd) (q : Slot) :
    p.spunDown ((q.into st).noShown out) = p.spunDown (q.noShown out) := by
  unfold Part.spunDown
  split <;> rfl

/-- A no-show in IDENT is one of the slot as it was before it entered IDENT. -/
theorem NoShow.of_changeState {i : SlotId} {p t : Part} {st : SlotState} (h : NoShow i (p.changeState i st) t)
    (hw : (p.slot i).state.atWork = false) (hst : st.atWork = false) : NoShow i p t := by
  have hslot := Part.changeState_slot_idle (p := p) (i := i) hw hst
  have hi : (p.changeState i st).slot i = (p.slot i).into st := (hslot i).trans (Part.modSlot_slot_self ..)
  obtain ⟨h1, h2⟩ := h
  rw [Part.changeState_tables] at h1 h2
  rw [hi] at h1 h2
  refine ⟨fun hr => ?_, fun h0 hr => ?_⟩
  · refine (h1 hr).trans ?_
    rw [Part.spunDown_congr (p.changeState_tables i st) (p.changeState_totes i st)]
    exact p.spunDown_into_noShown st _ (p.slot i)
  · have hg := h2 h0 hr
    rw [Part.changeState_spinQueue, Part.changeState_spinCount] at hg
    refine hg.congr (by simp) (by simp) (funext fun k => ?_)
    by_cases hk : k = i
    · rw [if_pos hk, if_pos hk]; rfl
    · rw [if_neg hk, if_neg hk, hslot, Part.modSlot_slot_ne (Ne.symm hk)]

/-- Where the slot does not rejoin the queue, a no-show tells of its record alone. -/
theorem NoShow.of_slot {i : SlotId} {p t t' : Part} (h : NoShow i p t)
    (hr : 0 < p.tables.rack.spindownWait ∨ (p.slot i).retry = true) (hs : t'.slot i = t.slot i) : NoShow i p t' := by
  obtain ⟨h1, -⟩ := h
  refine ⟨fun hr => ?_, fun h0 hf => ?_⟩
  · rw [hs]
    exact h1 hr
  · exact absurd hf (by rw [hr.resolve_left (by omega)]; decide)

/-- Grants leave a slot outside the queue as it was. -/
theorem Grants.slot {p t : Part} {queue : List SlotId} {count : Nat} {base : SlotId → Slot}
    (h : Grants p queue count base t) {i : SlotId} (hi : i ∉ queue) : t.slot i = base i := by
  obtain ⟨-, -, h⟩ := h
  rw [h, if_neg fun hm => hi (List.mem_of_mem_take hm)]

/-- The part in which slot `i`'s window is over and its place in the budget free (R134). -/
def Part.windowOver (i : SlotId) (p : Part) : Part :=
  { p.modSlot i (fun _ => { p.slot i with spinupTimer := none }) with spinCount := p.spinCount - 1 }

theorem Part.windowOver_slot (i : SlotId) (p : Part) (k : SlotId) :
    (p.windowOver i).slot k = if k = i then { p.slot i with spinupTimer := none } else p.slot k := by
  change (p.modSlot i fun _ => { p.slot i with spinupTimer := none }).slot k = _
  rw [Part.modSlot_slot]
  simp only [eq_comm]

/-- Slot `i` has left SPINUP for IDENT (R25, R134), before its probe. -/
def Part.inIdent (i : SlotId) (p : Part) : Part := (p.windowOver i).changeState i .ident

/-- The record that has left SPINUP for IDENT. -/
def Slot.inIdent (q : Slot) : Slot := Slot.into .ident { q with spinupTimer := none }

theorem Part.spinupOver_of_due {i : SlotId} {p : Part}
    (h : (p.slot i).state = .spinup ∧ timerDue (p.slot i).spinupTimer = true) :
    p.spinupOver i = ((p.windowOver i).enterIdent i).grants := by
  unfold Part.spinupOver
  rw [if_pos h]
  unfold Part.leaveSpinup
  rw [if_pos rfl]
  rfl

section
variable {i : SlotId} {p : Part}

theorem Part.windowOver_idle (h : (p.slot i).state = .spinup) : ((p.windowOver i).slot i).state.atWork = false := by
  rw [Part.windowOver_slot, if_pos rfl]
  change (p.slot i).state.atWork = false
  rw [h]
  rfl

theorem Part.inIdent_slot (h : (p.slot i).state = .spinup) (k : SlotId) :
    (p.inIdent i).slot k = if k = i then (p.slot i).inIdent else p.slot k := by
  unfold Part.inIdent
  rw [Part.changeState_slot_idle (Part.windowOver_idle h) rfl, Part.modSlot_slot, Part.windowOver_slot,
    Part.windowOver_slot]
  by_cases hk : k = i
  · rw [if_pos hk.symm, if_pos rfl, if_pos hk]; rfl
  · rw [if_neg (Ne.symm hk), if_neg hk, if_neg hk]

theorem Part.inIdent_spinQueue (i : SlotId) (p : Part) : (p.inIdent i).spinQueue = p.spinQueue :=
  Part.changeState_spinQueue i .ident (p.windowOver i)

theorem Part.inIdent_spinCount (i : SlotId) (p : Part) : (p.inIdent i).spinCount = p.spinCount - 1 :=
  Part.changeState_spinCount i .ident (p.windowOver i)

theorem Part.inIdent_tables (i : SlotId) (p : Part) : (p.inIdent i).tables = p.tables :=
  Part.changeState_tables i .ident (p.windowOver i)

theorem Part.inIdent_door (i : SlotId) (p : Part) : (p.inIdent i).door = p.door :=
  Part.changeState_door i .ident (p.windowOver i)

theorem Part.inIdent_completions (i : SlotId) (p : Part) :
    (p.inIdent i).trunk.completions = p.trunk.completions :=
  congrArg Ledger.completions (Part.changeState_ledger i .ident (p.windowOver i))

end

/-- Slot `i` in IDENT with its probe in its list (R25, R88). -/
def Part.probing (i : SlotId) (code : Byte) (p : Part) : Part :=
  (p.inIdent i).modSlot i fun s =>
    { s with outstanding := [probeEntry code], noShowTimer := some (.start p.tables.rack.noShowWindow) }.kick

theorem Part.probing_slot {i : SlotId} {p : Part} (h : (p.slot i).state = .spinup) (code : Byte) :
    (p.probing i code).slot i = { p.slot i with
      state := .ident
      lamp := ⟨.green, .hz2⟩
      power := true
      spinupTimer := none
      outstanding := [probeEntry code]
      noShowTimer := some ⟨p.tables.rack.noShowWindow, 0⟩
      laneTx := if (p.slot i).laneTx = .idle ∧ (p.slot i).lane = .opened then .command 255 (commandUnit 255 code [])
        else (p.slot i).laneTx } := by
  unfold Part.probing
  rw [Part.modSlot_slot_self, Part.inIdent_slot h, if_pos rfl]
  unfold Slot.kick
  change (if (p.slot i).laneTx = .idle ∧ (p.slot i).lane = .opened then _ else _) = _
  split <;> rfl

theorem Part.probing_slot_ne {i k : SlotId} {p : Part} (h : (p.slot i).state = .spinup) (hk : k ≠ i) (code : Byte) :
    (p.probing i code).slot k = p.slot k := by
  unfold Part.probing
  rw [Part.modSlot_slot_ne (Ne.symm hk), Part.inIdent_slot h, if_neg hk]

/-- The slots other than one in SPINUP keep to a sound queue. -/
theorem Part.QueuesSound.grants_of_slots {p t : Part} (h : p.QueuesSound) {i : SlotId} (hi : i ∉ p.spinQueue)
    (hs : ∀ k, k ≠ i → t.slot k = p.slot k) (hq : t.spinQueue = p.spinQueue) (hc : t.spinCount = p.spinCount - 1)
    (ht : t.tables = p.tables) (hd : t.door = p.door) :
    t.grants.slot i = t.slot i ∧ Grants p p.spinQueue (p.spinCount - 1)
      (fun k => if k = i then t.grants.slot i else p.slot k) t.grants := by
  obtain ⟨hn, hidle⟩ := h.spin
  have hg : Grants t t.spinQueue t.spinCount t.slot t.grants :=
    Part.grants_grants (by rwa [hq]) fun j hj => by
      rw [hq] at hj
      rw [hs j fun e => hi (e ▸ hj)]
      exact hidle j hj
  have hself := hg.slot (i := i) (by rwa [hq])
  refine ⟨hself, ?_⟩
  rw [hq, hc] at hg
  refine hg.congr ht.symm hd.symm (funext fun k => ?_)
  by_cases hk : k = i
  · rw [if_pos hk, hk, hself]
  · rw [if_neg hk, hs k hk]

/-- Settles O35: the probe in its list or a no-show, and the grants of the freed place. -/
theorem spinupWindowExpires : Obligations.SpinupWindowExpires := by
  intro i s q due
  have hexec : exec (.spinupWindowExpiry i) s = .next (s.put (s.part.spinupOver i)) := rfl
  refine ⟨fun hn => ?_, fun hd hq => ⟨fun j hv hc hf => ?_, fun hf hw => ?_, fun hf hsound => ?_⟩⟩
  · rw [hexec]
    exact congrArg (fun p => Host.Outcome.next (s.put p)) (if_neg hn)
  all_goals rw [hexec, Part.spinupOver_of_due hd]
  · intro code
    have hprobe : (s.part.windowOver i).probeCode = some code := Part.probeCode_of_first (p := s.part) hv hc hf
    have hprobing : (s.part.windowOver i).enterIdent i = s.part.probing i code := Part.enterIdent_of_some hprobe
    have hslot := Part.probing_slot (p := s.part) hd.1 code
    have hqueue : (s.part.probing i code).spinQueue = s.part.spinQueue := s.part.inIdent_spinQueue i
    have hcount : (s.part.probing i code).spinCount = s.part.spinCount - 1 := s.part.inIdent_spinCount i
    obtain ⟨b, hb⟩ := Part.grants_like (p := s.part.probing i code) (j := i) (by rwa [hqueue])
    rw [hprobing]
    refine ⟨_, rfl, fun he => ?_, ?_, ?_, fun hsound => ?_⟩
    · rw [Part.grants_of_empty (hqueue.trans he), hcount]
    · exact (Part.Moves.refl i _).grants.completions.trans (s.part.inIdent_completions i)
    · rw [hb, hslot]
      rfl
    · obtain ⟨hsame, hg⟩ := hsound.grants_of_slots hq (fun k hk => Part.probing_slot_ne hd.1 hk code) hqueue hcount
        (s.part.inIdent_tables i) (s.part.inIdent_door i)
      exact ⟨by rw [hsame, hslot], hg⟩
  all_goals
    have hprobe : (s.part.windowOver i).probeCode = none := (s.part.probeCode_eq_none_iff).mpr hf
    have hshow : (s.part.windowOver i).enterIdent i = (s.part.inIdent i).noShow i := Part.enterIdent_of_none hprobe
    have hslot := Part.inIdent_slot (p := s.part) hd.1
    have hself := hslot i
    rw [if_pos rfl] at hself
    have hidle : ((s.part.inIdent i).slot i).state.atWork = false := by rw [hself]; rfl
    rw [hshow]
  · obtain ⟨⟨out, h⟩, hqueue, -⟩ := Part.noShow_slot hidle (.inl (by rwa [Part.inIdent_tables]))
    have hi := h i
    rw [if_pos rfl, hself, Part.spunDown, Part.inIdent_tables, if_neg (by omega)] at hi
    obtain ⟨b, hb⟩ := Part.grants_like (p := (s.part.inIdent i).noShow i) (j := i)
      (by rwa [hqueue, Part.inIdent_spinQueue])
    rw [hi] at hb
    exact ⟨_, rfl, by rw [hb]; rfl, by rw [hb]; rfl, by rw [hb]; rfl, by rw [hb]; rfl⟩
  · have hjoin : ((s.part.inIdent i).spinQueue ++ [i]).Nodup ∧
        ∀ j ∈ (s.part.inIdent i).spinQueue, ((s.part.inIdent i).slot j).state.atWork = false := by
      rw [Part.inIdent_spinQueue]
      refine ⟨hsound.spin_join hq, fun j hj => ?_⟩
      rw [hslot, if_neg fun e : j = i => hq (e ▸ hj)]
      exact hsound.spin.2 j hj
    have hno := Part.noShow_noShow hidle (.inr hjoin)
    have hretry : ((s.part.inIdent i).slot i).retry = q.retry := by rw [hself]; rfl
    by_cases hr : 0 < s.part.tables.rack.spindownWait ∨ q.retry = true
    · have hr' : 0 < (s.part.inIdent i).tables.rack.spindownWait ∨ ((s.part.inIdent i).slot i).retry = true := by
        rwa [Part.inIdent_tables, hretry]
      obtain ⟨⟨out, h⟩, hnq, hnc⟩ := Part.noShow_slot hidle hr'
      obtain ⟨hsame, hg⟩ := hsound.grants_of_slots (t := (s.part.inIdent i).noShow i) hq
        (fun k hk => by rw [h, if_neg hk, hslot, if_neg hk]) (hnq.trans (s.part.inIdent_spinQueue i))
        (hnc.trans (s.part.inIdent_spinCount i)) ((Part.noShow_tables i _).trans (s.part.inIdent_tables i))
        ((Part.door_of_quiet (Part.Moves.refl i _).noShow.quiet).trans (s.part.inIdent_door i))
      exact ⟨_, rfl, (hno.of_slot hr' hsame).of_changeState (Part.windowOver_idle hd.1) rfl, fun _ => hg⟩
    · rw [not_or, Bool.not_eq_true] at hr
      obtain ⟨-, hwaits⟩ := Part.noShow_grants hidle (by rw [Part.inIdent_tables]; omega) (hretry.trans hr.2) hjoin.1
        hjoin.2
      rw [hwaits.grants_eq]
      exact ⟨_, rfl, hno.of_changeState (Part.windowOver_idle hd.1) rfl, fun h => absurd h (by simp [hr])⟩

end Sys2Proof.Machine

namespace Sys2Proof.Machine

/-! ## A slot's record through the events of a step (R55, R60) -/

/-- The part `t` has come from `p` with the record `q` in slot `i`, but for what offers latch, and with the tables and
the totes as they were: what the statements of a step's end and of DRAINING look at. -/
structure Part.Holds (i : SlotId) (p : Part) (q : Slot) (t : Part) : Prop where
  like : q.Like (t.slot i)
  judged : p.ZonesJudged → t.ZonesJudged ∧ t.slot i = q
  tables : t.tables = p.tables
  totes : t.totes = p.totes

theorem SlotBecomes.of_like {i : SlotId} {q : Slot} {p t : Part} (hl : q.Like (t.slot i))
    (hj : p.ZonesJudged → t.slot i = q) : SlotBecomes i q p t := by
  refine ⟨?_, hj⟩
  obtain ⟨b, hb⟩ := hl
  rw [hb]
  rfl

namespace Part.Holds

variable {i : SlotId} {p t : Part} {q : Slot}

theorem of_slot (hs : t.slot i = q) (hz : t.zones = p.zones) (hd : t.door = p.door) (ht : t.tables = p.tables)
    (hto : t.totes = p.totes) : p.Holds i q t :=
  ⟨hs ▸ .refl _, fun h => ⟨h.congr hz hd, hs⟩, ht, hto⟩

/-- Which record slot `i` of the part before has does not matter. -/
theorem rebase (h : p.Holds i q t) (f : Slot → Slot) : (p.modSlot i f).Holds i q t :=
  ⟨h.like, h.judged, h.tables, h.totes⟩

theorem edit (h : p.Holds i q t) (f : Slot → Slot) (hf : ∀ b, f (q.seen b) = (f q).seen b) :
    p.Holds i (f q) (t.modSlot i f) := by
  refine ⟨?_, fun hz => ?_, h.tables, h.totes⟩
  · obtain ⟨b, hb⟩ := h.like
    exact ⟨b, by rw [Part.modSlot_slot_self, hb, hf]⟩
  · obtain ⟨hj, hs⟩ := h.judged hz
    exact ⟨hj, by rw [Part.modSlot_slot_self, hs]⟩

theorem raise (h : p.Holds i q t) (b : NoticeBody) : p.Holds i q (t.raise b) := by
  refine ⟨?_, fun hz => ?_, (t.raise_tables b).trans h.tables, (t.raise_totes b).trans h.totes⟩
  · rw [Part.raise_slot]
    exact h.like
  · rw [Part.raise_slot]
    exact (h.judged hz).imp_left fun hj => hj.raise b

theorem takeOffer (h : p.Holds i q t) (z : ZoneId) : p.Holds i q (t.takeOffer z) := by
  refine ⟨h.like.trans (t.takeOffer_like z i), fun hz => ?_,
    (Part.tables_of_quiet (t.takeOffer_quiet z)).trans h.tables,
    (Part.totes_of_ledger (t.takeOffer_ledger z)).trans h.totes⟩
  obtain ⟨hj, hs⟩ := h.judged hz
  exact ⟨hj.takeOffer z, (hj.takeOffer_slot z i).trans hs⟩

theorem changeState (h : p.Holds i q t) (st : SlotState) : p.Holds i (q.into st) (t.changeState i st) := by
  unfold Part.changeState
  have hr := (h.edit (·.into st) fun _ => rfl).raise (.slotState i (t.slot i).state st)
  simp only
  cases (t.slot i).state.atWork || st.atWork
  · exact hr
  · exact hr.takeOffer _

theorem becomes (h : p.Holds i q t) : SlotBecomes i q p t := .of_like h.like fun hz => (h.judged hz).2

theorem stepEnded (h : p.Holds i q t) (e : Ending) : p.Holds i q (t.stepEnded i e) := h.raise _

end Part.Holds

/-! ### What the record says of the recipe -/

theorem Part.stepCount_congr {i : SlotId} {p t : Part} (ht : t.tables = p.tables)
    (hs : (t.slot i).recipe = (p.slot i).recipe) : t.stepCount i = p.stepCount i := by
  unfold Part.stepCount Part.recipeOf
  rw [ht, hs]

theorem Part.stepAt_congr {i : SlotId} {p t : Part} (ht : t.tables = p.tables)
    (hs : (t.slot i).recipe = (p.slot i).recipe) (k : Nat) : t.stepAt i k = p.stepAt i k := by
  unfold Part.stepAt Part.recipeOf
  rw [ht, hs]

/-- The slot's record in the step at position `k`, in a state, its lamp and power with it. -/
def Part.stepped (p : Part) (i : SlotId) (k : Nat) (st : SlotState) : Slot := (p.inStep i k).into st

theorem Part.Holds.recipe {i : SlotId} {p t : Part} {q : Slot} (h : p.Holds i q t) : (t.slot i).recipe = q.recipe := by
  obtain ⟨b, hb⟩ := h.like
  rw [hb]
  rfl

theorem Part.Holds.state {i : SlotId} {p t : Part} {q : Slot} (h : p.Holds i q t) : (t.slot i).state = q.state := by
  obtain ⟨b, hb⟩ := h.like
  rw [hb]
  rfl

theorem Part.Holds.stepIndex {i : SlotId} {p t : Part} {q : Slot} (h : p.Holds i q t) :
    (t.slot i).stepIndex = q.stepIndex := by
  obtain ⟨b, hb⟩ := h.like
  rw [hb]
  rfl

/-- The record without what a step entry and DRAINING entry set anew. -/
def Slot.offStep (q : Slot) : Slot :=
  { q.inDraining with stepIndex := 0, elapsed := 0, dwell := 0, stepDone := false }

theorem Slot.recipe_of_offStep {q q' : Slot} (h : q.offStep = q'.offStep) : q.recipe = q'.recipe :=
  (congrArg (fun x : Slot => x.recipe) h :)

/-- The record that items 2 to 4 of R55 make of a record. -/
def Slot.entered (k silence : Nat) (q : Slot) : Slot :=
  { q with stepIndex := k, elapsed := 0, dwell := 0, stepDone := false, stage1 := false,
           silenceTimer := watchdog silence }.dress

/-- The silence interval of the step at a position, 0 where there is none. -/
def Part.silenceAt (p : Part) (i : SlotId) (k : Nat) : Nat :=
  match p.stepAt i k with
  | none => 0
  | some e => e.silence

theorem Part.stepEnter_eq (i : SlotId) (k : Nat) (t : Part) :
    t.stepEnter i k = (t.modSlot i (Slot.entered k (t.silenceAt i k))).takeOffer (zoneOf i) := rfl

theorem Part.entered_eq_stepped {i : SlotId} {p : Part} {q : Slot} (h : q.offStep = (p.slot i).offStep) (k : Nat) :
    q.entered k (p.silenceAt i k) = p.stepped i k q.state := by
  have h' : q.entered k (p.silenceAt i k) = ((p.slot i).entered k (p.silenceAt i k)).into q.state :=
    (congrArg (fun x => (Slot.entered k (p.silenceAt i k) x).into q.state) h :)
  rw [h']
  unfold Part.stepped Part.inStep Part.silenceAt Slot.entered watchdog
  cases p.stepAt i k with
  | none => rfl
  | some e => rfl

/-- The step entry event (R55, items 2 to 4). -/
theorem Part.Holds.stepEnter {i : SlotId} {p t : Part} {q : Slot} (h : p.Holds i q t)
    (hq : q.offStep = (p.slot i).offStep) (k : Nat) : p.Holds i (p.stepped i k q.state) (t.stepEnter i k) := by
  have hsilence : t.silenceAt i k = p.silenceAt i k := by
    unfold Part.silenceAt
    rw [Part.stepAt_congr h.tables (h.recipe.trans (Slot.recipe_of_offStep hq)) k]
  rw [Part.stepEnter_eq, ← Part.entered_eq_stepped hq k, hsilence]
  exact (h.edit (Slot.entered k _) fun _ => rfl).takeOffer _

/-- DRAINING entry (R29). -/
theorem Part.Holds.enterDraining {i : SlotId} {p t : Part} {q : Slot} (h : p.Holds i q t) (e : Ending) :
    p.Holds i q.inDraining (t.enterDraining i e) :=
  ((h.stepEnded e).edit (fun s => Slot.dress { s with stage1 := false, silenceTimer := none }) fun _ => rfl).changeState
    .draining

/-! ### Item 5 of the step entry (R55) -/

theorem Part.landing_unfold (p : Part) (i : SlotId) (k : Nat) :
    p.landing i k = if p.zeroDwell i k = false then some k
      else if p.stepCount i ≤ k + 1 then none else p.landing i (k + 1) := by
  have hn : max 1 (p.stepCount i - k) = (max 1 (p.stepCount i - k) - 1) + 1 := by omega
  unfold Part.landing
  rw [hn, List.range'_succ, List.find?_cons]
  cases p.zeroDwell i k
  · rfl
  · simp only [Bool.not_true, Bool.true_eq_false, if_false]
    split
    next hc => rw [show max 1 (p.stepCount i - k) - 1 = 0 by omega]; rfl
    next hc => rw [show max 1 (p.stepCount i - k) - 1 = max 1 (p.stepCount i - (k + 1)) by omega]

/-- Where a chain of step entries from position `k` on has come to rest, in the state it was made in. -/
def Part.Lands (i : SlotId) (k : Nat) (st : SlotState) (p : Part) (c : Part × Bool) : Prop :=
  (∀ j, p.landing i k = some j → c.2 = false ∧ p.Holds i (p.stepped i j st) c.1) ∧
    (p.landing i k = none → c.2 = true ∧ p.Holds i (p.stepped i (max k (p.stepCount i - 1)) st) c.1)

theorem Part.Holds.endsAtEntry {i : SlotId} {p t : Part} {k : Nat} {st : SlotState}
    (h : p.Holds i (p.stepped i k st) t) : t.endsAtEntry i = p.zeroDwell i k := by
  unfold Part.endsAtEntry Part.currentStep Part.zeroDwell
  rw [h.stepIndex, Part.stepAt_congr h.tables h.recipe]
  rfl

theorem Part.Holds.atLastStep {i : SlotId} {p t : Part} {k : Nat} {st : SlotState}
    (h : p.Holds i (p.stepped i k st) t) : t.atLastStep i = decide (p.stepCount i ≤ k + 1) := by
  unfold Part.atLastStep
  rw [h.stepIndex, Part.stepCount_congr h.tables h.recipe]
  rfl

/-- A chain of step entries, one at least, comes to rest where the statements say. -/
theorem Part.Holds.chain {i : SlotId} {p : Part} {st : SlotState} (fuel : Nat) {t : Part} {k : Nat}
    (h : p.Holds i (p.stepped i k st) t) (hf : p.stepCount i < fuel + k) (hpos : 0 < fuel) :
    p.Lands i k st (t.chain i fuel) := by
  induction fuel generalizing t k with
  | zero => omega
  | succ fuel ih =>
    unfold Part.Lands Part.chain
    have hk : (t.slot i).stepIndex = k := h.stepIndex
    rw [Part.landing_unfold, h.endsAtEntry, h.atLastStep, hk]
    cases hz : p.zeroDwell i k with
    | false =>
      simp only [if_true, Bool.false_eq_true, if_false, Option.some.injEq, reduceCtorEq, false_implies, and_true]
      rintro j rfl
      exact ⟨trivial, h⟩
    | true =>
      by_cases hc : p.stepCount i ≤ k + 1
      · simp only [hc, decide_true, Bool.true_eq_false, if_true, if_false, reduceCtorEq, false_implies, forall_const,
          true_and]
        rw [Nat.max_eq_left (by omega)]
        exact h
      · have hnext : p.Holds i (p.stepped i (k + 1) st) ((t.stepEnded i .dwellReached).stepEnter i (k + 1)) :=
          (h.stepEnded _).stepEnter rfl _
        have hi := ih hnext (by omega) (by omega)
        unfold Part.Lands at hi
        rw [show max (k + 1) (p.stepCount i - 1) = max k (p.stepCount i - 1) by omega] at hi
        simpa only [hc, decide_false, Bool.true_eq_false, Bool.false_eq_true, if_true, if_false] using hi

theorem Part.Lands.raise {i : SlotId} {k : Nat} {st : SlotState} {p : Part} {c : Part × Bool} (h : p.Lands i k st c)
    (b : NoticeBody) : p.Lands i k st (c.1.raise b, c.2) := by
  obtain ⟨h1, h2⟩ := h
  exact ⟨fun j hj => (h1 j hj).imp_right fun hh => hh.raise b, fun hn => (h2 hn).imp_right fun hh => hh.raise b⟩

/-- Running steps are entered (R26, R30). -/
theorem Part.Holds.enterSteps {i : SlotId} {p t : Part} (h : p.Holds i (p.slot i) t) :
    p.Lands i 0 .running (t.enterSteps i) := by
  have hin : p.Holds i (p.stepped i 0 .running) ((t.modSlot i (·.into .running)).stepEnter i 0) :=
    (h.edit (·.into .running) fun _ => rfl).stepEnter rfl 0
  have hcount : t.stepCount i = p.stepCount i := Part.stepCount_congr h.tables h.recipe
  unfold Part.enterSteps
  refine Part.Lands.raise (Part.Holds.chain _ hin ?_ (by omega)) _
  omega

/-- The record in RUNNING at a step, as the statements write it. -/
theorem Part.Lands.runsAt {i : SlotId} {k : Nat} {p : Part} {c : Part × Bool} (h : p.Lands i k .running c) :
    RunsAt i k p c.1 := by
  intro j hj
  exact (h.1 j hj).2.becomes

end Sys2Proof.Machine

namespace Sys2Proof.Machine

/-! ## The end of DRAINING (R30, R117, R121) -/

/-- The record of a slot with its grade recorded (R117), as the statements write it. -/
def Slot.gradedBy (g : Graded) (q : Slot) : Slot :=
  { q with
    disposition := some g.disposition
    reason := g.reason
    density := if q.disposition = none then g.density else q.density }

theorem Slot.recordGrade_computeGrade (l : LimitSet) (q : Slot) :
    q.recordGrade (computeGrade l q.acc q.disposition q.reason q.shortfall) =
      q.gradedBy (computeGrade l q.acc q.disposition q.reason q.shortfall) := by
  unfold Slot.recordGrade Slot.gradedBy
  cases h : q.disposition with
  | none => simp
  | some d =>
    have hd : (if q.disposition = none then none else q.density) = q.density := if_neg (by simp [h])
    simp only [computeGrade, ← h, hd]

/-- The grade looks at the tables and the record alone. -/
theorem Part.graded_congr {i : SlotId} {p t : Part} (ht : t.tables = p.tables) {b : Bool}
    (hs : t.slot i = (p.slot i).seen b) : t.graded i = p.graded i := by
  unfold Part.graded Part.limitsOf Part.recipeOf
  rw [ht, hs]
  rfl

theorem Part.recordGrade_graded (p : Part) (i : SlotId) :
    (p.slot i).recordGrade (p.graded i) = (p.slot i).gradedBy (p.graded i) :=
  Slot.recordGrade_computeGrade _ _

/-- The retest that a graded record takes (R121), as the statements write it. -/
def Part.retestOf (p : Part) (i : SlotId) : Option (Fin 16) :=
  if (p.graded i).disposition = 8 ∨ p.tables.rack.retestMax ≤ (p.slot i).retests then none
  else p.tables.bins[(p.graded i).disposition].retest.filter fun r => p.tables.recipes[r].count ≠ 0

section
variable {i : SlotId} {p t : Part}

theorem Part.Holds.gradeSlot (h : p.Holds i (p.slot i) t) :
    p.Holds i ((p.slot i).gradedBy (p.graded i)) (t.gradeSlot i) := by
  obtain ⟨b, hb⟩ := h.like
  rw [← Part.recordGrade_graded, ← Part.graded_congr h.tables hb]
  refine (h.edit (Slot.recordGrade (t.graded i)) fun b => ?_).raise _
  unfold Slot.recordGrade
  split <;> split <;> simp_all [Slot.seen]

theorem Part.Holds.retestRecipe (h : p.Holds i ((p.slot i).gradedBy (p.graded i)) t) :
    t.retestRecipe i = p.retestOf i := by
  obtain ⟨b, hb⟩ := h.like
  have hd : (t.slot i).disposition = some (p.graded i).disposition := by rw [hb]; rfl
  have hr : (t.slot i).retests = (p.slot i).retests := by rw [hb]; rfl
  unfold Part.retestRecipe Part.retestOf
  rw [hd, hr, h.tables]
  simp only
  by_cases h8 : (p.graded i).disposition = 8
  · rw [if_pos h8, if_pos (.inl h8)]
  · rw [if_neg h8]
    by_cases hmax : p.tables.rack.retestMax ≤ (p.slot i).retests
    · rw [if_pos (.inr hmax)]
      split
      · rfl
      · exact if_neg fun hc => absurd hc.2 (by omega)
    · rw [if_neg (by simp [h8, hmax])]
      split
      next hn => rw [hn]; rfl
      next r hs =>
        rw [hs, Option.filter_some]
        by_cases hc : p.tables.recipes[r].count = 0
        · rw [if_neg (by omega), if_neg (by simpa using hc)]
        · rw [if_pos (by omega), if_pos (by simpa using hc)]

/-- DRAINING is left with the lane OPEN, for SPINDOWN or past it. -/
theorem Part.Holds.leaveDraining {q : Slot} (h : p.Holds i q t)
    (hr : q.retry = false ∨ 0 < p.tables.rack.spindownWait) :
    SlotBecomes i (p.spunDown q.openLane) p (t.leaveDraining i) := by
  have ho : p.Holds i q.openLane (t.modSlot i Slot.openLane) := h.edit _ fun _ => rfl
  have hspun : (t.modSlot i Slot.openLane).spunDown = p.spunDown := Part.spunDown_congr ho.tables ho.totes
  obtain ⟨b, hb⟩ := ho.like
  have hr' : ((t.modSlot i Slot.openLane).slot i).retry = false ∨
      0 < (t.modSlot i Slot.openLane).tables.rack.spindownWait := by
    rw [hb, ho.tables]
    exact hr
  refine .of_like ?_ fun hz => ?_
  · have hl := Part.enterSpindown_like hr'
    rw [hspun, hb, Part.spunDown_seen] at hl
    exact Slot.Like.trans ⟨b, rfl⟩ hl
  · obtain ⟨hj, hs⟩ := ho.judged hz
    have := Part.enterSpindown_slot (.inl hj) hr' i
    rw [if_pos rfl, hspun, hs] at this
    exact this

/-- The part with slot `i` about to enter step 0 of the retest recipe `r` (R30). -/
def Part.retested (i : SlotId) (r : Fin 16) (p : Part) : Part :=
  p.modSlot i fun _ => { p.slot i with
    recipe := some r
    retests := (p.slot i).retests + 1
    acc := ⟨0, 0, 0, 0, 0, 0, Vector.replicate 8 0, false⟩
    shortfall := 0
    disposition := none
    reason := .none
    density := none }

theorem Part.retested_retests (i : SlotId) (r : Fin 16) (p : Part) :
    ((p.retested i r).slot i).retests = (p.slot i).retests + 1 := by
  unfold Part.retested
  rw [Part.modSlot_slot_self]

theorem Part.Holds.enterRetest (h : p.Holds i ((p.slot i).gradedBy (p.graded i)) t) (r : Fin 16) :
    (p.retested i r).Lands i 0 .running (t.enterRetest i r) := by
  refine Part.Holds.enterSteps (p := p.retested i r) ?_
  unfold Part.retested
  rw [Part.modSlot_slot_self]
  exact (h.rebase _).edit (fun s => { s with
    retests := s.retests + 1, acc := .zero, shortfall := 0, disposition := none, reason := .none, density := none,
    recipe := some r }) fun _ => rfl

end

/-- What the end of DRAINING says of the parts before and after, by its retest. -/
theorem drainingLeads_iff (i : SlotId) (again : Part → Part → Prop) (p t : Part) :
    DrainingLeads i again p t ↔
      (∀ r, p.retestOf i = some r → RunsAt i 0 (p.retested i r) t ∧ ((p.retested i r).landing i 0 = none →
        again ((p.retested i r).modSlot i fun _ =>
          ((p.retested i r).inStep i ((p.retested i r).stepCount i - 1)).inDraining) t)) ∧
      (p.retestOf i = none → (p.slot i).retry = false ∨ 0 < p.tables.rack.spindownWait →
        SlotBecomes i (p.spunDown ((p.slot i).gradedBy (p.graded i)).openLane) p t) := Iff.rfl

theorem Part.endDraining_of_none {i : SlotId} {t : Part} (h : (t.gradeSlot i).retestRecipe i = none) (k : Nat) :
    t.endDraining i k = (t.gradeSlot i).leaveDraining i := by
  cases k with
  | zero => rfl
  | succ k => simp only [Part.endDraining, h]

theorem Part.endDraining_of_retest {i : SlotId} {t : Part} {r : Fin 16} (h : (t.gradeSlot i).retestRecipe i = some r)
    (k : Nat) : t.endDraining i (k + 1) =
      if ((t.gradeSlot i).enterRetest i r).2 then
        Part.endDraining i k (((t.gradeSlot i).enterRetest i r).1.enterDraining i .dwellReached)
      else ((t.gradeSlot i).enterRetest i r).1 := by
  simp only [Part.endDraining, h]

/-- DRAINING ends as often as the retests come straight back to it, the retest maximum bounding that (R121). -/
theorem Part.Holds.endDraining {i : SlotId} (k n : Nat) {p t : Part} (h : p.Holds i (p.slot i) t)
    (hk : k = p.tables.rack.retestMax - (p.slot i).retests) : DrainingEndsWithin i n p (t.endDraining i k) := by
  induction n generalizing k p t with
  | zero => trivial
  | succ n ih =>
    have hg := h.gradeSlot
    rw [DrainingEndsWithin, drainingLeads_iff]
    cases hret : p.retestOf i with
    | none =>
      rw [Part.endDraining_of_none (hg.retestRecipe.trans hret)]
      exact ⟨fun r hr => (nomatch hr), fun _ hr => hg.leaveDraining hr⟩
    | some r =>
      obtain ⟨m, rfl⟩ : ∃ m, k = m + 1 := Nat.exists_eq_succ_of_ne_zero fun h0 => by
        rw [Part.retestOf, if_pos (.inr (by omega))] at hret
        cases hret
      rw [Part.endDraining_of_retest (hg.retestRecipe.trans hret)]
      refine ⟨fun r' hr' => ?_, fun hr' => by cases hr'⟩
      cases hr'
      have hl := hg.enterRetest r
      cases hland : (p.retested i r).landing i 0 with
      | some j =>
        rw [(hl.1 j hland).1, if_neg Bool.false_ne_true]
        exact ⟨hl.runsAt, fun hn => by cases hn⟩
      | none =>
        obtain ⟨hc, hh⟩ := hl.2 hland
        rw [hc, if_pos rfl]
        refine ⟨fun j hj => absurd hj (by rw [hland]; simp), fun _ => ih m ?_ ?_⟩
        · have hd := (hh.enterDraining .dwellReached).rebase fun _ =>
            ((p.retested i r).inStep i ((p.retested i r).stepCount i - 1)).inDraining
          rw [Nat.zero_max] at hd
          rw [Part.modSlot_slot_self]
          exact hd
        · rw [Part.modSlot_slot_self]
          change m = p.tables.rack.retestMax - ((p.retested i r).slot i).retests
          rw [Part.retested_retests]
          omega

/-! ## DRAINING entry, and where steps lead (R29, R55, R60) -/

section
variable {i : SlotId} {p t : Part} {q : Slot}

theorem Part.Holds.drainCheck (h : p.Holds i (p.slot i).inDraining t) : Drains i p (t.drainCheck i) := by
  obtain ⟨b, hb⟩ := h.like
  have hout : (t.slot i).outstanding = (p.slot i).outstanding := by rw [hb]; rfl
  have hret : (t.slot i).retests = (p.slot i).retests := by rw [hb]; rfl
  have hcheck : t.drainCheck i = if (p.slot i).outstanding = [] then
      t.endDraining i (p.tables.rack.retestMax - (p.slot i).retests) else t := by
    unfold Part.drainCheck
    rw [h.state, hout, hret, h.tables]
    simp only [Slot.inDraining, true_and]
  refine ⟨fun ho => ?_, fun ho => ?_⟩
  · rw [hcheck, if_neg ho]
    exact h.becomes
  · rw [hcheck, if_pos ho]
    refine Part.Holds.endDraining _ _ ?_ ?_
    · rw [Part.modSlot_slot_self]
      exact h.rebase _
    · rw [Part.modSlot_slot_self]
      rfl

/-- A slot drains from a step, whatever of its record DRAINING entry sets anew. -/
theorem Part.Holds.drains (h : p.Holds i q t) (hq : q.inDraining = (p.slot i).inDraining) (e : Ending) :
    Drains i p ((t.enterDraining i e).drainCheck i) := by
  have hd := h.enterDraining e
  rw [hq] at hd
  exact hd.drainCheck

/-- Where a chain of steps ended in DRAINING (R55). -/
theorem Part.Lands.drains {k : Nat} {st : SlotState} {c : Part × Bool} (h : p.Lands i k st c)
    (hn : p.landing i k = none) :
    Drains i (p.modSlot i fun _ => p.inStep i (max k (p.stepCount i - 1))) (Part.afterChain i c) := by
  obtain ⟨hc, hh⟩ := h.2 hn
  unfold Part.afterChain
  rw [hc, if_pos rfl]
  refine (hh.rebase fun _ => p.inStep i (max k (p.stepCount i - 1))).drains ?_ _
  rw [Part.modSlot_slot_self]
  rfl

theorem Part.Lands.rests {k j : Nat} {st : SlotState} {c : Part × Bool} (h : p.Lands i k st c)
    (hj : p.landing i k = some j) : SlotBecomes i (p.stepped i j st) p (Part.afterChain i c) := by
  obtain ⟨hc, hh⟩ := h.1 j hj
  unfold Part.afterChain
  rw [hc, if_neg Bool.false_ne_true]
  exact hh.becomes

theorem Part.Lands.entersStep {k : Nat} {c : Part × Bool} (h : p.Lands i k .running c) :
    EntersStep i k p (Part.afterChain i c) :=
  ⟨fun _ hj => h.rests hj, h.drains⟩

/-- A step that is entered comes to rest, in the state it was entered in. -/
theorem Part.Holds.settles {k : Nat} {st : SlotState} (h : p.Holds i (p.stepped i k st) t) :
    p.Lands i k st (t.chain i (t.stepCount i + 1)) := by
  have hcount : t.stepCount i = p.stepCount i := Part.stepCount_congr h.tables h.recipe
  exact h.chain _ (by omega) (by omega)

/-- A step ends where the statements say (R29, R60), whatever of its record a step entry sets anew. -/
theorem Part.Holds.endStep (h : p.Holds i q t) (hq : q.inDraining = (p.slot i).inDraining)
    (hs : q.state = (p.slot i).state) (e : Ending) : StepEnds i p (t.endStep i e) := by
  have hidx : q.stepIndex = (p.slot i).stepIndex := (congrArg (fun x : Slot => x.stepIndex) hq :)
  have hrec : q.recipe = (p.slot i).recipe := (congrArg (fun x : Slot => x.recipe) hq :)
  have hoff : q.offStep = (p.slot i).offStep :=
    (congrArg (fun x : Slot => { x with stepIndex := 0, elapsed := 0, dwell := 0, stepDone := false }) hq :)
  have hlast : t.atLastStep i = decide (p.stepCount i ≤ (p.slot i).stepIndex + 1) := by
    unfold Part.atLastStep
    rw [h.stepIndex, hidx, Part.stepCount_congr h.tables (h.recipe.trans hrec)]
  refine ⟨fun hrun hnext => ?_, fun hend => ?_⟩
  · have hcond : (t.slot i).state = .running ∧ t.atLastStep i = false :=
      ⟨h.state.trans (hs.trans hrun), by rw [hlast]; exact decide_eq_false (by omega)⟩
    unfold Part.endStep Part.settle
    rw [if_pos hcond, h.stepIndex, hidx]
    have hin := (h.stepEnded e).stepEnter hoff ((p.slot i).stepIndex + 1)
    rw [hs, hrun] at hin
    exact hin.settles.entersStep
  · have hcond : ¬ ((t.slot i).state = .running ∧ t.atLastStep i = false) := by
      rintro ⟨h1, h2⟩
      rw [hlast] at h2
      rw [h.state, hs] at h1
      obtain hc | hc := hend
      · rw [h1] at hc; cases hc
      · exact of_decide_eq_false h2 hc
    unfold Part.endStep
    rw [if_neg hcond]
    exact h.drains hq e

end

end Sys2Proof.Machine

namespace Sys2Proof.Machine

/-! ## O36: the identity probe and the no-show window -/

theorem Part.noShowOver_of_due {i : SlotId} {p : Part}
    (h : (p.slot i).state = .ident ∧ timerDue (p.slot i).noShowTimer = true) : p.noShowOver i = p.noShow i := if_pos h

/-- A probe's COMPLETION in IDENT is its answer (R78). -/
theorem Part.laneCompletion_of_probe {i : SlotId} {unit : List Byte} {m : CompletionMsg} {e : Entry} {t0 : Time}
    {tm : Option Timer} {p : Part} (hu : judgeUnit unit = .completion m) (hm : m.tag = 255)
    (hs : (p.slot i).state = .ident) (ho : (p.slot i).outstanding = [e]) (he : e.tag = 255)
    (hi : e.state = .issued t0 tm) : p.laneCompletion i unit = p.probeAnswer i m := by
  have hfind : (p.slot i).outstanding.find? (fun e => e.tag == m.tag && e.isIssued) = some e := by
    rw [ho, List.find?_singleton, if_pos]
    unfold Entry.isIssued
    simp [he, hm, hi]
  have hprobe : e.isProbe = true := beq_iff_eq.mpr he
  unfold Part.laneCompletion
  rw [hu]
  simp only [Part.takeCompletion, hfind, hi, hprobe, if_true]
  rw [if_pos hs]

/-- A good probe answer enters step 0 (R26, R55). -/
theorem Part.identified_entersStep {i : SlotId} {p : Part} {e : Entry} (ho : (p.slot i).outstanding = [e])
    (he : e.tag = 255) (d : Identity) :
    EntersStep i 0 (p.modSlot i fun _ => { p.slot i with
      identity := some d, outstanding := [], noShowTimer := none, retry := false }) (p.identified i d) := by
  have hleft : (p.slot i).outstanding.filter (fun e => !e.isProbe) = [] := by
    rw [ho]
    unfold Entry.isProbe probeTag
    simp [he]
  have hmod : (p.modSlot i fun s => { s with
      identity := some d, outstanding := s.outstanding.filter (fun e => !e.isProbe), noShowTimer := none,
      retry := false }) = p.modSlot i fun _ => { p.slot i with
      identity := some d, outstanding := [], noShowTimer := none, retry := false } :=
    Part.modSlot_congr (by rw [hleft])
  unfold Part.identified
  rw [hmod]
  refine (Part.Holds.enterSteps ?_).entersStep
  exact Part.Holds.raise (.of_slot rfl rfl rfl rfl rfl) _

/-- Settles O36: the window's expiry and a bad answer are no-shows, a good answer enters step 0. -/
theorem probeOrNoShow : Obligations.ProbeOrNoShow := by
  have hsound : ∀ {i : SlotId} {p : Part}, (p.slot i).state = .ident →
      p.QueuesSound ∨ 0 < p.tables.rack.spindownWait → NoShow i p (p.noShow i) := by
    intro i p hs hq
    refine Part.noShow_noShow (by rw [hs]; rfl) (hq.symm.imp_right fun hq => ⟨hq.spin_join ?_, hq.spin.2⟩)
    exact hq.not_mem (by rw [hs]; decide)
  refine ⟨fun i s => ?_, fun i unit m e t0 tm s => ?_⟩
  · intro q due
    have hexec : exec (.noShowWindowExpiry i) s = .next (s.put (s.part.noShowOver i)) := rfl
    refine ⟨fun hn => ?_, fun hd => ?_⟩
    · rw [hexec]
      exact congrArg (fun p => Host.Outcome.next (s.put p)) (if_neg hn)
    · rw [hexec, Part.noShowOver_of_due hd]
      refine ⟨_, rfl, fun hq => hsound hd.1 (.inl hq), Part.noShow_completions i _, Part.noShow_tables i _,
        fun hw => ⟨hsound hd.1 (.inr hw), ?_⟩⟩
      obtain ⟨⟨out, h⟩, hqueue, hcount⟩ := Part.noShow_slot (p := s.part) (i := i) (by rw [hd.1]; rfl) (.inl hw)
      exact ⟨fun j hj => by rw [h, if_neg hj], hqueue, hcount⟩
  · intro q hu hm hs ho he hi
    have hexec : exec (.laneCompletion i unit) s = .next (s.put (s.part.laneCompletion i unit)) := rfl
    rw [hexec, Part.laneCompletion_of_probe hu hm hs ho he hi]
    have hanswer := (Part.Moves.refl i s.part).probeAnswer m
    refine ⟨fun d hid hst => ⟨_, rfl, hanswer.completions, Part.tables_of_quiet hanswer.quiet, ?_⟩,
      fun hbad => ⟨_, rfl, hanswer.completions, fun hq => ?_⟩⟩
    · unfold Part.probeAnswer
      rw [hid]
      simp only [if_pos hst]
      exact Part.identified_entersStep ho he d
    · have hno : s.part.probeAnswer i m = s.part.noShow i := by
        unfold Part.probeAnswer
        split
        · rfl
        next d hid =>
          obtain hn | hn := hbad
          · rw [hid] at hn; cases hn
          · exact if_neg fun h => h.elim hn.1 hn.2
      rw [hno]
      exact hsound hs hq

end Sys2Proof.Machine

namespace Sys2Proof.Machine

/-! ## The slot's 1 s tick (R18, R56 to R62) -/

theorem SlotState.stepping_iff (st : SlotState) : st.stepping = true ↔ st = .running ∨ st = .condemned := by
  cases st <;> simp [SlotState.stepping]

/-- A tick meets the advance condition (R59) where the dwell is reached and nothing else is waited for. -/
theorem StepEntry.metOnTick_eq_none_iff (e : StepEntry) (dwell : Nat) (done : Bool) :
    e.metOnTick dwell done = none ↔
      ¬ (e.dwell ≤ dwell ∧ (e.advance = .dwell ∨ (e.advance = .both ∧ done = true))) := by
  unfold StepEntry.metOnTick
  cases e.advance <;> simp

theorem StepEntry.limitReached_iff (e : StepEntry) (n : Nat) : e.limitReached n = true ↔ e.limit ≠ 0 ∧ n = e.limit := by
  simp [StepEntry.limitReached]

theorem StepEntry.inBand_iff (e : StepEntry) (t : Int) :
    e.inBand t = true ↔
      e.tolerance = 0 ∨ e.setPoint = 0 ∨ (e.setPoint - e.tolerance ≤ t ∧ t ≤ e.setPoint + e.tolerance) := by
  simp [StepEntry.inBand, or_assoc]

/-- The hold conditions (R57), as the statements write them. -/
theorem Part.accrues_iff (p : Part) (i : SlotId) (e : StepEntry) :
    p.accrues i e = true ↔ p.door.value = false ∧ (p.slot i).stage1 = false ∧
      ((p.zone (zoneOf i)).state = .regulating ∨ (p.zone (zoneOf i)).state = .idle) ∧
      ∃ t, (p.zone (zoneOf i)).temperature = some t ∧ (e.tolerance = 0 ∨ e.setPoint = 0 ∨
        (e.setPoint - e.tolerance ≤ t ∧ t ≤ e.setPoint + e.tolerance)) := by
  unfold Part.accrues
  cases h : (p.zone (zoneOf i)).temperature <;> simp [h, StepEntry.inBand_iff, and_assoc]

theorem Part.slotSecond_of_none {i : SlotId} {p : Part} (h : (p.slot i).ticksDue = 0) : p.slotSecond i = p := if_pos h

theorem Part.slotSecond_of_due {i : SlotId} {p : Part} (h : 0 < (p.slot i).ticksDue) :
    p.slotSecond i = (p.modSlot i Slot.countTest).when (p.slot i).state.stepping (Part.stepTick i) := by
  unfold Part.slotSecond
  rw [if_neg (by omega)]
  simp only [Part.modSlot_slot_self]
  rfl

/-- The counting of a test second touches nothing that a step is found by. -/
theorem Part.countTest_currentStep (i : SlotId) (p : Part) :
    (p.modSlot i Slot.countTest).currentStep i = p.currentStep i := by
  unfold Part.currentStep
  rw [Part.modSlot_slot_self]
  exact Part.stepAt_congr (i := i) (p := p) (t := p.modSlot i Slot.countTest) rfl
    (congrArg Slot.recipe (Part.modSlot_slot_self i Slot.countTest p) :) _

/-- A record that has counted a test second in a step (R18). -/
def Slot.ticked (q : Slot) : Slot :=
  { q with ticksDue := q.ticksDue - 1, testSeconds := min 4294967295 (q.testSeconds + 1) }

theorem Slot.countTest_of_stepping {q : Slot} (h : q.state.stepping = true) : q.countTest = q.ticked := by
  have ht : q.state.testing = true := by
    obtain h | h := q.state.stepping_iff.mp h <;> rw [h] <;> rfl
  unfold Slot.countTest
  rw [ht]
  rfl

theorem Slot.countTest_of_idle {q : Slot} (hr : q.state ≠ .running) (hc : q.state ≠ .condemned) :
    q.countTest = { q with
      ticksDue := q.ticksDue - 1
      testSeconds := if q.state ∈ [.powerWait, .spinup, .ident, .draining, .spindown]
        then min 4294967295 (q.testSeconds + 1) else q.testSeconds } := by
  have ht : q.state.testing = true ↔ q.state ∈ [.powerWait, .spinup, .ident, .draining, .spindown] := by
    cases h : q.state <;> simp_all [SlotState.testing]
  unfold Slot.countTest
  simp only [ht]
  rfl

/-- A tick in a step not at its limit: the counts, and the end of a step whose condition they meet (R56). -/
theorem Part.slotSecond_of_step {i : SlotId} {p : Part} {e : StepEntry} (hd : 0 < (p.slot i).ticksDue)
    (hs : (p.slot i).state.stepping = true) (he : p.currentStep i = some e)
    (hl : e.limitReached (p.slot i).elapsed = false) :
    p.slotSecond i = (p.modSlot i fun _ =>
      (p.slot i).ticked.countStep (p.accrues i e && decide ((p.slot i).dwell < e.dwell))).advanceStep i e := by
  rw [Part.slotSecond_of_due hd, hs, Part.when_true]
  have hself : (p.modSlot i Slot.countTest).slot i = (p.slot i).ticked := by
    rw [Part.modSlot_slot_self, Slot.countTest_of_stepping hs]
  have hacc : (p.modSlot i Slot.countTest).accrues i e = p.accrues i e := by
    unfold Part.accrues
    rw [hself]
    rfl
  unfold Part.stepTick
  rw [Part.countTest_currentStep, he]
  simp only [hself, hacc]
  rw [if_neg (by change ¬ e.limitReached (p.slot i).elapsed = true; rw [hl]; exact Bool.false_ne_true),
    Part.modSlot_modSlot]
  refine congrArg (Part.advanceStep i e) (Part.modSlot_congr ?_)
  rw [Slot.countTest_of_stepping hs]
  rfl

theorem Part.advanceStep_of_not_met {i : SlotId} {p : Part} {e : StepEntry}
    (h : e.metOnTick (p.slot i).dwell (p.slot i).stepDone = none) : p.advanceStep i e = p := by
  unfold Part.advanceStep
  rw [h]

/-- A step whose condition is met ends (R59, R60). -/
theorem Part.advanceStep_stepEnds {i : SlotId} {p : Part} {e : StepEntry}
    (h : e.metOnTick (p.slot i).dwell (p.slot i).stepDone ≠ none) : StepEnds i p (p.advanceStep i e) := by
  unfold Part.advanceStep
  split
  next hn => exact absurd hn h
  next x _ => exact (Part.Holds.of_slot rfl rfl rfl rfl rfl).endStep rfl rfl x

/-- Settles O29: the counts of the tick, and the step's end where they meet its condition. -/
theorem slotSecondTickCounts : Obligations.SlotSecondTickCounts := by
  intro i s q z
  have hexec : exec (.slotSecondTick i) s = .next (s.put (s.part.slotSecond i)) := rfl
  refine ⟨fun h0 => ?_, fun hd hr hc => ?_, fun e credit hd hs he hl hcredit => ?_⟩
  · rw [hexec, Part.slotSecond_of_none h0]
    rfl
  · have hidle : (s.part.slot i).state.stepping = false := by
      rw [Bool.eq_false_iff, ne_eq, SlotState.stepping_iff]
      exact fun h => h.elim hr hc
    rw [hexec, Part.slotSecond_of_due hd, hidle, Part.when_false]
    refine congrArg (fun p => Host.Outcome.next (s.put p)) (Part.modSlot_congr ?_)
    exact Slot.countTest_of_idle hr hc
  · intro q' met
    have hcredit' : (s.part.accrues i e && decide (q.dwell < e.dwell)) = credit := by
      rw [Bool.eq_iff_iff, Bool.and_eq_true, decide_eq_true_eq, Part.accrues_iff, hcredit]
      simp only [and_assoc]
      rfl
    have hq' : q.ticked.countStep credit = q' := by
      unfold Slot.countStep
      rfl
    have hlimit : e.limitReached q.elapsed = false := by
      rw [Bool.eq_false_iff, ne_eq, StepEntry.limitReached_iff]
      exact fun h => hl.elim h.1 fun hn => hn h.2
    have htick : s.part.slotSecond i = (s.part.modSlot i fun _ => q').advanceStep i e := by
      rw [Part.slotSecond_of_step hd ((SlotState.stepping_iff _).mpr hs) he hlimit, ← hq', ← hcredit']
    have hself : (s.part.modSlot i fun _ => q').slot i = q' := Part.modSlot_slot_self ..
    have hmet := e.metOnTick_eq_none_iff q'.dwell q'.stepDone
    rw [hexec, htick]
    refine ⟨fun hn => ?_, fun hm => ⟨_, rfl, Part.advanceStep_stepEnds ?_⟩⟩
    · rw [Part.advanceStep_of_not_met]
      rw [hself]
      exact hmet.mpr hn
    · rw [hself]
      exact fun hn => hmet.mp hn hm

/-! ## O30: the time limit of a step -/

/-- The record of a slot whose step is forced to end (R62). -/
def Slot.forced (short : Bool) (q : Slot) : Slot :=
  { q with
    shortfall := if short then min 255 (q.shortfall + 1) else q.shortfall
    sticky := { q.sticky with shortfall := if short then true else q.sticky.shortfall } }

/-- A forced step ends (R60, R62). -/
theorem Part.forceStep_stepEnds (i : SlotId) (e : StepEntry) (p : Part) :
    StepEnds i (p.modSlot i (Slot.forced (e.advance != .server && decide ((p.slot i).dwell < e.dwell))))
      (p.forceStep i e) := by
  have hwhen : (p.when (e.advance != .server && decide ((p.slot i).dwell < e.dwell)) fun q => q.modSlot i fun x =>
      { x with shortfall := satAdd 255 x.shortfall 1 }.latch fun c => { c with shortfall := true }) =
      p.modSlot i (Slot.forced (e.advance != .server && decide ((p.slot i).dwell < e.dwell))) := by
    cases e.advance != .server && decide ((p.slot i).dwell < e.dwell)
    · exact (Part.modSlot_of_fixed rfl).symm
    · rfl
  unfold Part.forceStep
  simp only [hwhen]
  exact ((Part.Holds.of_slot rfl rfl rfl rfl rfl).raise _).endStep rfl rfl _

theorem Part.stepLimit_of_not {i : SlotId} {p : Part} (h : p.atLimit i = false) : p.stepLimit i = p := by
  unfold Part.stepLimit
  rw [h, Part.when_false]

/-- Settles O30: the slot's 1 s tick at the limit, and the step forced to end. -/
theorem stepTimeLimitForces : Obligations.StepTimeLimitForces := by
  intro i s q
  have hexec : exec (.stepTimeLimitExpiry i) s = .next (s.put (s.part.stepLimit i)) := rfl
  have hnone : s.part.atLimit i = false → exec (.stepTimeLimitExpiry i) s = .next s := fun h => by
    rw [hexec, Part.stepLimit_of_not h]
    rfl
  refine ⟨fun hs => hnone ?_, fun e he hl => hnone ?_, fun e hs he hl hq => ?_⟩
  · unfold Part.atLimit
    have : (s.part.slot i).state.stepping = false := by
      rw [Bool.eq_false_iff, ne_eq, SlotState.stepping_iff]
      exact fun h => h.elim hs.1 hs.2
    rw [this, Bool.false_and]
  · unfold Part.atLimit
    rw [he]
    have : e.limitReached q.elapsed = false := by
      rw [Bool.eq_false_iff, ne_eq, StepEntry.limitReached_iff]
      exact fun h => hl.elim h.1 fun hn => hn h.2
    simp only
    rw [this, Bool.and_false]
  · have hstep : (s.part.slot i).state.stepping = true := (SlotState.stepping_iff _).mpr hs
    have hlimit : e.limitReached q.elapsed = true := (e.limitReached_iff _).mpr ⟨hl, hq⟩
    have hat : s.part.stepLimit i = s.part.slotSecond i := by
      unfold Part.stepLimit Part.atLimit
      rw [hstep, he]
      simp only
      rw [hlimit]
      rfl
    refine ⟨by rw [hexec, hat]; rfl, fun hd => ?_⟩
    intro short
    have htick : s.part.slotSecond i = (s.part.modSlot i Slot.countTest).forceStep i e := by
      rw [Part.slotSecond_of_due hd, hstep, Part.when_true]
      unfold Part.stepTick
      rw [Part.countTest_currentStep, he]
      simp only [Part.modSlot_slot_self]
      exact if_pos hlimit
    have hshort : (e.advance != .server && decide (q.dwell < e.dwell)) = short := by
      rw [Bool.eq_iff_iff]
      simp [short]
    refine ⟨_, by rw [hexec, hat, htick], ?_⟩
    have hends := (s.part.modSlot i Slot.countTest).forceStep_stepEnds i e
    rw [Part.modSlot_modSlot, Part.modSlot_slot_self] at hends
    have hrec : (s.part.modSlot i fun x => (Slot.countTest x).forced
        (e.advance != .server && decide ((s.part.slot i).countTest.dwell < e.dwell))) =
        s.part.modSlot i fun _ => q.ticked.forced short := by
      refine Part.modSlot_congr ?_
      rw [Slot.countTest_of_stepping hstep]
      exact congrArg (fun b => Slot.forced b q.ticked) hshort
    rw [hrec] at hends
    exact hends

/-! ## O19: STEP_DONE -/

/-- A slot in a step whose watchdog is serviced (R164). -/
def Slot.serviced (n : Nat) (q : Slot) : Slot := { q with stage1 := false, silenceTimer := watchdog n }.dress

theorem Part.serviceSilence_of_step {i : SlotId} {p : Part} {e : StepEntry} (hs : (p.slot i).state.stepping = true)
    (he : p.currentStep i = some e) :
    p.serviceSilence i = if e.silence = 0 then p else p.modSlot i (Slot.serviced e.silence) := by
  have hi : p.interval i = e.silence := by unfold Part.interval; rw [he]
  unfold Part.serviceSilence
  rw [hi, hs]
  by_cases h : e.silence = 0
  · rw [if_pos h, if_neg (by omega)]
  · rw [if_neg h, if_pos ⟨rfl, by omega⟩]
    rfl

/-- The service of the watchdog touches only what DRAINING entry and a step entry set anew. -/
theorem Part.serviceSilence_holds (i : SlotId) (p : Part) :
    ∃ q, p.Holds i q (p.serviceSilence i) ∧ q.inDraining = (p.slot i).inDraining ∧ q.state = (p.slot i).state := by
  unfold Part.serviceSilence
  split
  · exact ⟨_, .of_slot (Part.modSlot_slot_self ..) rfl rfl rfl rfl, rfl, rfl⟩
  · exact ⟨_, .of_slot rfl rfl rfl rfl rfl, rfl, rfl⟩

theorem Part.stepDoneEffect_of_both {i : SlotId} {p : Part} {e : StepEntry} (he : p.currentStep i = some e)
    (ha : e.advance = .both) : p.stepDoneEffect i =
      if e.dwell ≤ (p.slot i).dwell then
        ((p.serviceSilence i).modSlot i fun s => { s with stepDone := true }).endStep i .bothMet
      else (p.serviceSilence i).modSlot i fun s => { s with stepDone := true } := by
  unfold Part.stepDoneEffect
  rw [he]
  simp only [ha]

theorem Part.stepDoneEffect_of_server {i : SlotId} {p : Part} {e : StepEntry} (he : p.currentStep i = some e)
    (ha : e.advance = .server) : p.stepDoneEffect i = (p.serviceSilence i).endStep i .serverDone := by
  unfold Part.stepDoneEffect
  rw [he]
  simp only [ha]

/-- The checks of STEP_DONE (R61) on a slot in a step. -/
theorem Part.stepDoneRefusal_of_step {i : SlotId} {k : Nat} {p : Part} {e : StepEntry}
    (hk : k = 255 ∨ (k < 16 ∧ k = (p.slot i).stepIndex)) (hs : (p.slot i).state.stepping = true)
    (he : p.currentStep i = some e) :
    p.stepDoneRefusal i k =
      if e.advance = .dwell ∨ (e.advance = .both ∧ (p.slot i).stepDone = true) then some .wrongState else none := by
  unfold Part.stepDoneRefusal
  rw [if_neg (by omega), hs, if_neg (by simp), if_neg (by omega), he]
  cases h : e.advance <;> simp [h]

theorem Part.stepDoneRefusal_of_bad {i : SlotId} {k : Nat} {p : Part} (hk : 16 ≤ k ∧ k ≤ 254) :
    p.stepDoneRefusal i k = some .badValue := if_pos hk

theorem Part.stepDoneRefusal_of_idle {i : SlotId} {k : Nat} {p : Part} (hk : k < 16 ∨ k = 255)
    (hs : (p.slot i).state.stepping = false) : p.stepDoneRefusal i k = some .wrongState := by
  unfold Part.stepDoneRefusal
  rw [if_neg (by omega), hs]
  rfl

theorem Part.stepDoneRefusal_of_other {i : SlotId} {k : Nat} {p : Part} (hk : k < 16)
    (hs : (p.slot i).state.stepping = true) (hi : k ≠ (p.slot i).stepIndex) :
    p.stepDoneRefusal i k = some .wrongState := by
  unfold Part.stepDoneRefusal
  rw [if_neg (by omega), hs, if_neg (by simp), if_pos ⟨by omega, hi⟩]

/-- Settles O19: the checks in their order, the watchdog's service, and the step's end. -/
theorem stepDoneAnswers : Obligations.StepDoneAnswers := by
  intro source tag i k rest s r q hhead
  have hserve : serveStepDone r (s.part.taken r rest) =
      match s.part.stepDoneRefusal i k.toNat with
      | some st => .no st (s.part.taken r rest)
      | none => .ok [] ((s.part.taken r rest).stepDoneEffect i) := by
    unfold serveStepDone
    rw [Request.slotId_byte, Request.arg_singleton]
    rfl
  have hexec : ∀ {a : Answer}, serveStepDone r (s.part.taken r rest) = a →
      exec .stepDone s = .next (s.put (a.part.respond ⟨byte i.val, tag, a.status, a.clamped, a.content⟩)) :=
    fun ha => congrArg (fun p => Host.Outcome.next (s.put p)) (Part.take_slot_request hhead rfl rfl rfl ha)
  have hall : k = 255 ↔ k.toNat = 255 := ⟨fun h => by rw [h]; rfl, fun h => BitVec.eq_of_toNat_eq h⟩
  constructor
  · intro st hst
    have href : s.part.stepDoneRefusal i k.toNat = some st := by
      obtain ⟨h1, h2, rfl⟩ | ⟨hk, hr, hc, rfl⟩ | ⟨hk, hs, hi, rfl⟩ | ⟨hk, hs, ⟨e, he, ha⟩, rfl⟩ := hst
      · exact Part.stepDoneRefusal_of_bad ⟨h1, h2⟩
      · refine Part.stepDoneRefusal_of_idle (hk.imp_right hall.mp) ?_
        rw [Bool.eq_false_iff, ne_eq, SlotState.stepping_iff]
        exact fun h => h.elim hr hc
      · exact Part.stepDoneRefusal_of_other hk ((SlotState.stepping_iff _).mpr hs) hi
      · rw [Part.stepDoneRefusal_of_step (hk.imp_left hall.mp) ((SlotState.stepping_iff _).mpr hs) he, if_pos ha]
    exact hexec (a := .no st (s.part.taken r rest)) (by rw [hserve, href])
  · intro e hk hs he
    have hstep : q.state.stepping = true := (SlotState.stepping_iff _).mpr hs
    have hok : ¬ (e.advance = .dwell ∨ (e.advance = .both ∧ q.stepDone = true)) →
        exec .stepDone s = .next (s.put (((s.part.taken r rest).stepDoneEffect i).respond
          ⟨byte i.val, tag, .ok, false, []⟩)) := fun ha =>
      hexec (a := .ok [] ((s.part.taken r rest).stepDoneEffect i)) (by
        rw [hserve, Part.stepDoneRefusal_of_step (hk.imp_left hall.mp) hstep he, if_neg ha])
    have he' : (s.part.taken r rest).currentStep i = some e := he
    obtain ⟨q', hh, hq', hst'⟩ := (s.part.taken r rest).serviceSilence_holds i
    have hh' : s.part.Holds i q' ((s.part.taken r rest).serviceSilence i) :=
      ⟨hh.like, hh.judged, hh.tables, hh.totes⟩
    refine ⟨fun ha hd hlt => ?_, fun ha hd hle => ?_, fun ha => ?_⟩
    · rw [hok (by simp [ha, hd]), Part.stepDoneEffect_of_both he' ha,
        if_neg (by change ¬ e.dwell ≤ q.dwell; omega), Part.serviceSilence_of_step (p := s.part.taken r rest) hstep he']
      refine congrArg (fun p : Part => Host.Outcome.next (s.put (p.respond _))) ?_
      by_cases h0 : e.silence = 0
      · simp only [h0, if_true]
        rfl
      · simp only [h0, if_false, Part.modSlot_modSlot]
        refine Part.modSlot_congr ?_
        change { q.serviced e.silence with stepDone := true } = _
        unfold Slot.serviced Slot.dress watchdog
        obtain hs | hs := hs <;> simp only [hs, h0, if_false] <;> rfl
    · refine ⟨_, hok (by simp [ha, hd]), ?_⟩
      rw [Part.stepDoneEffect_of_both he' ha, if_pos (by exact hle)]
      refine Part.Holds.endStep ((hh'.edit (fun x => { x with stepDone := true }) fun _ => rfl).rebase _) ?_ ?_ _
      · rw [Part.modSlot_slot_self]
        exact (congrArg (fun x : Slot => { x with stepDone := true }) hq' :)
      · rw [Part.modSlot_slot_self]
        exact hst'
    · refine ⟨_, hok (by simp [ha]), ?_⟩
      rw [Part.stepDoneEffect_of_server he' ha]
      exact hh'.endStep hq' hst' _

end Sys2Proof.Machine

namespace Sys2Proof.Machine

/-! ## O42: a drive's completion (R78, R93 to R96, R104) -/

/-- Is the completion of the entry counted (R95), as the statements write it? -/
theorem Part.counts_iff (p : Part) (i : SlotId) (x : Handing) :
    p.counts i x = true ↔
      (∃ st, p.stepAt i x.step = some st ∧ st.scoring = true) ∧ x.scored = true ∧ (p.slot i).acc.frozen = false := by
  unfold Part.counts
  cases h : p.stepAt i x.step <;> simp [and_assoc]

/-- A unit matched by its tag to an ISSUED entry of the server (R78). -/
theorem Part.laneCompletion_of_entry {i : SlotId} {unit : List Byte} {m : CompletionMsg} {e : Entry} {t0 : Time}
    {tm : Option Timer} {p : Part} (hu : judgeUnit unit = .completion m) (hm : m.tag ≠ 255) (he : e.tag = m.tag)
    (hi : e.state = .issued t0 tm)
    (ho : ∃ before after, (p.slot i).outstanding = before ++ e :: after ∧ ∀ y ∈ before, y.tag ≠ m.tag) :
    p.laneCompletion i unit = p.matched i e t0 m := by
  obtain ⟨before, after, hl, hb⟩ := ho
  have hissued : (e.tag == m.tag && e.isIssued) = true := by
    unfold Entry.isIssued
    simp [he, hi]
  have hfind : (p.slot i).outstanding.find? (fun e => e.tag == m.tag && e.isIssued) = some e := by
    rw [hl, List.find?_append, List.find?_eq_none.mpr, Option.none_or]
    · exact List.find?_cons_of_pos hissued
    · intro y hy
      simp [hb y hy]
  have hprobe : e.isProbe = false := beq_false_of_ne (by rw [he]; exact hm)
  unfold Part.laneCompletion
  rw [hu]
  simp only [Part.takeCompletion, hfind, hi, hprobe, Bool.false_eq_true, if_false]

theorem setEntry_finish (tag : Byte) (l : List Entry) :
    setEntry tag Entry.finish l = l.map fun y => if y.tag = tag then { y with state := .done } else y := by
  unfold setEntry
  refine List.map_congr_left fun y _ => ?_
  by_cases h : y.tag = tag <;> simp [h, Entry.finish]

/-- A condemned slot's move, where it has none to make (R28). -/
theorem Part.moveCondemned_of_other {i : SlotId} {p : Part} (h : (p.slot i).state ≠ .running) :
    p.moveCondemned i = p := if_neg h

section
variable {i : SlotId} {p t : Part}

theorem Part.lastIsCooldown_iff (p : Part) (i : SlotId) :
    p.lastIsCooldown i = true ↔ ∃ st, p.stepAt i (p.stepCount i - 1) = some st ∧ st.cooldown = true := by
  unfold Part.lastIsCooldown
  cases p.stepAt i (p.stepCount i - 1) <;> simp

theorem Part.Holds.lastIsCooldown (h : p.Holds i (p.slot i) t) : t.lastIsCooldown i = p.lastIsCooldown i := by
  unfold Part.lastIsCooldown
  rw [Part.stepCount_congr h.tables h.recipe, Part.stepAt_congr h.tables h.recipe]

/-- Does a condemned slot go to the recipe's cooldown step (R28, R65)? -/
def Part.jumps (p : Part) (i : SlotId) : Prop :=
  p.lastIsCooldown i = true ∧ (p.slot i).stepIndex ≠ p.stepCount i - 1

/-- From RUNNING without a cooldown step to come, a condemned slot drains. -/
theorem Part.Holds.moveCondemned_drains (h : p.Holds i (p.slot i) t) (hs : (p.slot i).state = .running)
    (hj : ¬ p.jumps i) : Drains i p (t.moveCondemned i) := by
  have hj' : ¬ (t.lastIsCooldown i = true ∧ (t.slot i).stepIndex ≠ t.stepCount i - 1) := by
    rw [h.lastIsCooldown, h.stepIndex, Part.stepCount_congr h.tables h.recipe]
    exact hj
  unfold Part.moveCondemned
  rw [if_pos (h.state.trans hs), if_neg hj']
  exact h.drains rfl _

/-- From RUNNING a condemned slot comes to rest in the cooldown step, or past it. -/
theorem Part.Holds.moveCondemned_lands (h : p.Holds i (p.slot i) t) (hs : (p.slot i).state = .running)
    (hj : p.jumps i) :
    ∃ c, p.Lands i (p.stepCount i - 1) .condemned c ∧ t.moveCondemned i = Part.afterChain i c := by
  have hcount := Part.stepCount_congr h.tables h.recipe
  have hj' : t.lastIsCooldown i = true ∧ (t.slot i).stepIndex ≠ t.stepCount i - 1 := by
    rw [h.lastIsCooldown, h.stepIndex, hcount]
    exact hj
  have hin := ((h.stepEnded .condemned).stepEnter rfl (p.stepCount i - 1)).changeState .condemned
  have hin' : p.Holds i (p.stepped i (p.stepCount i - 1) .condemned)
      (((t.stepEnded i .condemned).stepEnter i (p.stepCount i - 1)).changeState i .condemned) := hin
  refine ⟨_, hin'.settles, ?_⟩
  unfold Part.moveCondemned
  rw [if_pos (h.state.trans hs), if_pos hj', hcount]
  rfl

end

theorem Part.landing_last {p : Part} {i : SlotId} :
    p.landing i (p.stepCount i - 1) =
      if p.zeroDwell i (p.stepCount i - 1) = false then some (p.stepCount i - 1) else none := by
  rw [Part.landing_unfold, if_pos (c := p.stepCount i ≤ p.stepCount i - 1 + 1) (by omega)]

/-- The part with the entry DONE and its completion appended, `a` being what the Score Unit has made of the
accumulators (R78, R96). -/
def Part.answered (i : SlotId) (e : Entry) (m : CompletionMsg) (latency : Nat) (a : Accum) (p : Part) : Part :=
  (p.modSlot i fun y => { y with outstanding := setEntry e.tag Entry.finish y.outstanding, acc := a }).pushCompletion
    (e.drivenCompletion i m latency)

/-- The same with the queue of completions and the list written out. -/
theorem Part.answered_eq {i : SlotId} {e : Entry} {m : CompletionMsg} {latency : Nat} {p : Part}
    {completions : List Completion} {done : List Entry}
    (hc : p.trunk.completions ++ [e.drivenCompletion i m latency] = completions)
    (hd : setEntry e.tag Entry.finish (p.slot i).outstanding = done) (a : Accum) :
    p.answered i e m latency a =
      ({ p with trunk := { p.trunk with completions := completions } } : Part).modSlot i fun y =>
        { y with outstanding := done, acc := a } := by
  subst hc hd
  exact congrArg (Part.pushCompletion (e.drivenCompletion i m latency)) (Part.modSlot_congr rfl)

theorem Part.matched_of_not_counted {i : SlotId} {e : Entry} {t0 : Time} {m : CompletionMsg} {p : Part}
    (h : p.counts i (e.handing (.drive m.status) m.delta m.coverage (elapsedMs t0 p.now)) = false) :
    p.matched i e t0 m = p.answered i e m (elapsedMs t0 p.now) (p.slot i).acc := by
  unfold Part.matched Part.hand
  simp only [h, Bool.false_eq_true, if_false, Part.when_false]
  exact congrArg (Part.pushCompletion _) (Part.modSlot_congr rfl)

theorem Part.matched_of_counted {i : SlotId} {e : Entry} {t0 : Time} {m : CompletionMsg} {p : Part} {x : Handing}
    (hx : x = e.handing (.drive m.status) m.delta m.coverage (elapsedMs t0 p.now)) (h : p.counts i x = true)
    (hcap : ((p.slot i).acc.count x).u ≤ (p.limitsOf i).cap) :
    p.matched i e t0 m = p.answered i e m (elapsedMs t0 p.now) ((p.slot i).acc.count x) := by
  subst hx
  unfold Part.matched Part.hand
  simp only [h, if_true, if_neg (Nat.not_lt.mpr hcap), Part.when_false]
  rw [Part.modSlot_modSlot]
  rfl

theorem Part.matched_of_condemned {i : SlotId} {e : Entry} {t0 : Time} {m : CompletionMsg} {p : Part} {x : Handing}
    (hx : x = e.handing (.drive m.status) m.delta m.coverage (elapsedMs t0 p.now)) (h : p.counts i x = true)
    (hcap : (p.limitsOf i).cap < ((p.slot i).acc.count x).u) :
    p.matched i e t0 m =
      (p.answered i e m (elapsedMs t0 p.now) { (p.slot i).acc.count x with frozen := true }).condemn i := by
  subst hx
  unfold Part.matched Part.hand
  simp only [h, if_true, if_pos hcap, Part.when_true]
  rw [Part.modSlot_modSlot]
  rfl

/-- Settles O42: the entry DONE with its completion, what the Score Unit counts, and the condemnation it may cause. -/
theorem completionIsMatched : Obligations.CompletionIsMatched := by
  intro i unit m e t0 tm s q latency x counted done completions hu hm he hi ho
  have hexec : exec (.laneCompletion i unit) s = .next (s.put (s.part.matched i e t0 m)) :=
    congrArg (fun p => Host.Outcome.next (s.put p)) (Part.laneCompletion_of_entry hu hm he hi ho)
  have hx : x = e.handing (.drive m.status) m.delta m.coverage (elapsedMs t0 s.part.now) := rfl
  have hcounts : s.part.counts i x = true ↔ counted := s.part.counts_iff i x
  have hdone : setEntry e.tag Entry.finish q.outstanding = done := by rw [setEntry_finish, he]
  have hcompletions : s.part.trunk.completions ++ [e.drivenCompletion i m latency] = completions := by
    unfold Entry.drivenCompletion
    rw [he]
  have hanswered := Part.answered_eq hcompletions hdone
  rw [hexec]
  refine ⟨fun hn => ?_, fun hc hcap => ?_, fun hc hcap => ?_⟩
  · rw [Part.matched_of_not_counted (Bool.eq_false_iff.mpr (mt hcounts.mp hn))]
    refine congrArg (fun p => Host.Outcome.next (s.put p)) ((hanswered _).trans (Part.modSlot_congr ?_))
    rfl
  · rw [Part.matched_of_counted hx (hcounts.mpr hc) hcap]
    exact congrArg (fun p => Host.Outcome.next (s.put p)) (hanswered _)
  · rw [Part.matched_of_condemned hx (hcounts.mpr hc) hcap]
    intro last p0 jumps
    obtain ⟨t, ht⟩ : ∃ t, t = s.part.answered i e m latency { q.acc.count x with frozen := true } := ⟨_, rfl⟩
    have hslot : t.slot i = { q with outstanding := done, acc := { q.acc.count x with frozen := true } } := by
      rw [ht, hanswered, Part.modSlot_slot_self]
      rfl
    have htrunk : t.trunk.completions = completions := by rw [ht, hanswered]; rfl
    have htables : t.tables = s.part.tables := by rw [ht, hanswered]; rfl
    have hp0 : p0.slot i = Slot.record 7 .condemnedUncorrectable
        { q with outstanding := done, acc := { q.acc.count x with frozen := true } } := by
      rw [Slot.record_eq]
      exact Part.modSlot_slot_self ..
    have hholds : p0.Holds i (p0.slot i) ((t.modSlot i (Slot.record 7 .condemnedUncorrectable)).raise
        (.slotCondemned i (t.slot i).acc.u)) := by
      refine Part.Holds.raise (.of_slot ?_ ?_ ?_ ?_ ?_) _
      · rw [Part.modSlot_slot_self, hp0, hslot]
      all_goals rw [ht, hanswered]; rfl
    have hrecipe : (p0.slot i).recipe = q.recipe := by rw [hp0, Slot.record_eq]
    have hstate : (p0.slot i).state = q.state := by rw [hp0, Slot.record_eq]
    have hcount : p0.stepCount i = s.part.stepCount i := Part.stepCount_congr rfl hrecipe
    have hjumps : p0.jumps i ↔ jumps := by
      unfold Part.jumps
      rw [Part.lastIsCooldown_iff, Part.stepAt_congr (p := s.part) (t := p0) rfl hrecipe, hcount, hp0, Slot.record_eq]
    have hmoves := (Part.Moves.refl i t).condemn
    have hcondemn : t.condemn i = ((t.modSlot i (Slot.record 7 .condemnedUncorrectable)).raise
        (.slotCondemned i (t.slot i).acc.u)).moveCondemned i := rfl
    have hlanding := p0.landing_last (i := i)
    rw [hcount] at hlanding
    refine ⟨t.condemn i, congrArg (fun u => Host.Outcome.next (s.put (u.condemn i))) ht.symm,
      hmoves.completions.trans htrunk, (Part.tables_of_quiet hmoves.quiet).trans htables,
      fun hr => ?_, fun hr hj => ?_, fun hr hj hz => ?_,
      fun hr hj hz => ?_⟩
    · rw [hcondemn, Part.moveCondemned_of_other, Part.raise_slot, Part.modSlot_slot_self, hp0, hslot]
      rw [hholds.state, hstate]
      exact hr
    · rw [hcondemn]
      exact hholds.moveCondemned_drains (hstate.trans hr) (mt hjumps.mp hj)
    all_goals
      obtain ⟨c, hl, hc⟩ := hholds.moveCondemned_lands (hstate.trans hr) (hjumps.mpr hj)
      rw [hcount] at hl
      rw [hcondemn, hc]
    · rw [if_pos hz] at hlanding
      exact hl.rests hlanding
    · rw [if_neg (by rw [hz]; decide)] at hlanding
      have hd := hl.drains hlanding
      rwa [hcount, Nat.max_self] at hd

end Sys2Proof.Machine

namespace Sys2Proof.Machine

/-! ## A lane send dropped with its drive (R76) -/

/-- What is left of the last lane unit of a record whose send is dropped (R76): a send in progress was cut short. -/
def Slot.Dropped (q : Slot) (out : Option LaneEnd) : Prop :=
  (q.laneTx = .idle → out = q.laneOut) ∧
    (∀ tag unit, q.laneTx = .command tag unit → ∃ n, n ≤ unit.length - 1 ∧ out = some (.cutShort (cutUnit unit n))) ∧
    (q.laneTx = .resetLane → ∃ n, n ≤ resetLaneUnit.length - 1 ∧ out = some (.cutShort (cutUnit resetLaneUnit n)))

/-- The part with slot `i`'s lane send dropped. -/
def Part.dropSend (i : SlotId) (p : Part) : Part := (p.cutCommand i).cutReset i

theorem Part.cutReset_of_other {i : SlotId} {p : Part} (h : (p.slot i).laneTx ≠ .resetLane) : p.cutReset i = p := by
  unfold Part.cutReset
  split
  · rfl
  · rfl
  next hc => exact absurd hc h

theorem Part.cutReset_of_reset {i : SlotId} {p : Part} (h : (p.slot i).laneTx = .resetLane) :
    ∃ n, n ≤ resetLaneUnit.length - 1 ∧
      ∀ k, (p.cutReset i).slot k = (p.modSlot i (Slot.cutOff resetLaneUnit n)).slot k := by
  refine ⟨min (Config.cutLength p.fresh) (resetLaneUnit.length - 1), Nat.min_le_right _ _, fun k => ?_⟩
  unfold Part.cutReset
  rw [h]
  rfl

theorem Part.dropSend_slot (i : SlotId) (p : Part) :
    ∃ out, (p.slot i).Dropped out ∧
      ∀ k, (p.dropSend i).slot k = (p.modSlot i fun q => { q with laneTx := .idle, laneOut := out }).slot k := by
  unfold Part.dropSend Slot.Dropped
  cases htx : (p.slot i).laneTx with
  | idle =>
    refine ⟨(p.slot i).laneOut, ⟨fun _ => rfl, fun _ _ h => (nomatch h), fun h => (nomatch h)⟩, fun k => ?_⟩
    rw [Part.cutCommand_of_other (by rw [htx]; exact fun _ _ h => nomatch h),
      Part.cutReset_of_other (by rw [htx]; exact fun h => nomatch h), Part.modSlot_of_fixed]
    rw [← htx]
  | resetLane =>
    rw [Part.cutCommand_of_other (by rw [htx]; exact fun _ _ h => nomatch h)]
    obtain ⟨n, hn, h⟩ := Part.cutReset_of_reset htx
    exact ⟨_, ⟨fun h => (nomatch h), fun _ _ h => (nomatch h), fun _ => ⟨n, hn, rfl⟩⟩, h⟩
  | command tag unit =>
    obtain ⟨n, hn, h⟩ := Part.cutCommand_of_command htx
    rw [Part.cutReset_of_other (by rw [h, Part.modSlot_slot_self]; exact fun h => nomatch h)]
    refine ⟨_, ⟨fun h => (nomatch h), fun tag' unit' he => ?_, fun h => (nomatch h)⟩, h⟩
    cases he
    exact ⟨n, hn, rfl⟩

theorem Part.dropSend_ledger (i : SlotId) (p : Part) : (p.dropSend i).ledger = p.ledger := by
  unfold Part.dropSend
  refine Eq.trans ?_ (p.cutCommand_ledger i)
  unfold Part.cutReset
  split <;> rfl

theorem Part.dropSend_zones (i : SlotId) (p : Part) : (p.dropSend i).zones = p.zones := by
  have h1 : (p.cutCommand i).zones = p.zones := by unfold Part.cutCommand; split <;> rfl
  refine Eq.trans ?_ h1
  unfold Part.dropSend Part.cutReset
  split <;> rfl

theorem Part.dropSend_moves (i : SlotId) (p : Part) : p.Moves i (p.dropSend i) :=
  (Part.Moves.refl i p).cutCommand.cutReset

/-! ## What is done for the state left (R38) -/

@[simp] theorem Part.drivePulled_slot (i : SlotId) (p : Part) (k : SlotId) : (p.drivePulled i).slot k = p.slot k :=
  Part.raise_slot _ _ _

@[simp] theorem Part.drivePulled_zones (i : SlotId) (p : Part) :
    (p.drivePulled i).zones = p.zones := Part.raise_zones _ _

@[simp] theorem Part.drivePulled_ledger (i : SlotId) (p : Part) : (p.drivePulled i).ledger = p.ledger :=
  Part.raise_ledger _ _

/-- The states whose entries a presence loss completes with REMOVED (R38). -/
def SlotState.removes : SlotState → Bool
  | .ident | .running | .condemned | .draining => true
  | .empty | .seated | .powerWait | .spinup | .spindown | .toteWait | .unloadReady => false

theorem Part.lossEffects_of_removes {i : SlotId} {p : Part} (h : (p.slot i).state.removes = true) :
    p.lossEffects i = (p.completeOpen i .removed).drivePulled i := by
  unfold Part.lossEffects
  cases hs : (p.slot i).state <;> rw [hs] at h
  all_goals cases h

/-- In a state without entries a loss touches the spin-up queue and count, the totes and the notices alone (R38). -/
theorem Part.lossEffects_keeps {α : Type} {v : Part → α} (hr : ∀ b (q : Part), v (q.raise b) = v q)
    (hq : ∀ l (q : Part), v { q with spinQueue := l } = v q) (hc : ∀ n (q : Part), v { q with spinCount := n } = v q)
    (ht : ∀ (t : ToteId) f (q : Part), v (q.modTote t f) = v q) {i : SlotId} {p : Part}
    (h : (p.slot i).state.removes = false) : v (p.lossEffects i) = v p := by
  have hplace : v (p.place i) = v p := by
    unfold Part.place
    split
    · exact ht ..
    · rfl
  have hstray : v (p.stray i) = v p := by
    unfold Part.stray
    refine (hr ..).trans ?_
    split
    · rfl
    · exact ht ..
  unfold Part.lossEffects
  cases hs : (p.slot i).state <;> rw [hs] at h
  case seated => exact hr ..
  case powerWait => exact (hr ..).trans (hq ..)
  case spinup => exact (hr ..).trans (hc ..)
  case spindown => exact hr ..
  case toteWait => exact hstray
  case unloadReady => exact hplace
  all_goals cases h

/-- The slots change in the slot's list alone, which EMPTY clears. -/
theorem Part.lossEffects_slot (i : SlotId) (p : Part) :
    ∃ l, ∀ k, (p.lossEffects i).slot k = (p.modSlot i fun q => { q with outstanding := l }).slot k := by
  cases hr : (p.slot i).state.removes with
  | true =>
    refine ⟨((p.slot i).outstanding.filter fun e => !e.isProbe).map Entry.finish, fun k => ?_⟩
    rw [Part.lossEffects_of_removes hr, Part.drivePulled_slot, Part.completeOpen_slot]
    exact congrArg (fun q : Part => q.slot k) (Part.modSlot_congr rfl)
  | false =>
    refine ⟨(p.slot i).outstanding, fun k => ?_⟩
    rw [Part.modSlot_of_fixed rfl]
    exact Part.lossEffects_keeps (v := (·.slot k)) (fun b q => q.raise_slot b k) (fun _ _ => rfl) (fun _ _ => rfl)
      (fun _ _ _ => rfl) hr

theorem Part.lossEffects_zones (i : SlotId) (p : Part) : (p.lossEffects i).zones = p.zones := by
  cases hr : (p.slot i).state.removes with
  | true =>
    rw [Part.lossEffects_of_removes hr, Part.drivePulled_zones]
    exact Part.completeOpen_keeps (v := Part.zones) (fun _ _ => rfl) (fun _ _ _ => rfl) _ _ _
  | false =>
    exact Part.lossEffects_keeps (v := Part.zones) (fun b q => q.raise_zones b) (fun _ _ => rfl) (fun _ _ => rfl)
      (fun _ _ _ => rfl) hr

theorem Part.lossEffects_completions (i : SlotId) (p : Part) :
    (p.lossEffects i).trunk.completions =
      if (p.slot i).state.removes then p.trunk.completions ++ p.endCompletions i .removed else p.trunk.completions := by
  cases hr : (p.slot i).state.removes with
  | true =>
    rw [Part.lossEffects_of_removes hr, Part.completions_of_ledger (Part.drivePulled_ledger i _),
      Part.completeOpen_completions]
    rfl
  | false =>
    exact Part.lossEffects_keeps (v := (·.trunk.completions)) (fun b q => Part.completions_of_ledger (q.raise_ledger b))
      (fun _ _ => rfl) (fun _ _ => rfl) (fun _ _ _ => rfl) hr

section
variable {i : SlotId} {p : Part}

/-- A loss that completes entries touches neither the spin-up queue and count nor the totes (R38). -/
theorem Part.lossEffects_ledger_of_removes (h : (p.slot i).state.removes = true) :
    (p.lossEffects i).spinQueue = p.spinQueue ∧ (p.lossEffects i).spinCount = p.spinCount ∧
      (p.lossEffects i).totes = p.totes := by
  have hl := Part.drivePulled_ledger i (p.completeOpen i .removed)
  rw [Part.lossEffects_of_removes h, Part.spinQueue_of_ledger hl, Part.spinCount_of_ledger hl, Part.totes_of_ledger hl]
  exact ⟨Part.completeOpen_keeps (v := Part.spinQueue) (fun _ _ => rfl) (fun _ _ _ => rfl) _ _ _,
    Part.completeOpen_keeps (v := Part.spinCount) (fun _ _ => rfl) (fun _ _ _ => rfl) _ _ _,
    Part.completeOpen_keeps (v := Part.totes) (fun _ _ => rfl) (fun _ _ _ => rfl) _ _ _⟩

theorem Part.place_spin (i : SlotId) (p : Part) :
    (p.place i).spinQueue = p.spinQueue ∧ (p.place i).spinCount = p.spinCount := by
  unfold Part.place
  split <;> exact ⟨rfl, rfl⟩

theorem Part.stray_spin (i : SlotId) (p : Part) :
    (p.stray i).spinQueue = p.spinQueue ∧ (p.stray i).spinCount = p.spinCount := by
  unfold Part.stray
  rw [Part.raise_spinQueue, Part.raise_spinCount]
  split <;> exact ⟨rfl, rfl⟩

/-- The spin-up queue and count after a loss (R127, R128). -/
theorem Part.lossEffects_spin (i : SlotId) (p : Part) :
    (p.lossEffects i).spinQueue =
        (if (p.slot i).state = .powerWait then p.spinQueue.filter (· != i) else p.spinQueue) ∧
      (p.lossEffects i).spinCount = if (p.slot i).state = .spinup then p.spinCount - 1 else p.spinCount := by
  cases hr : (p.slot i).state.removes with
  | true =>
    obtain ⟨hq, hc, -⟩ := Part.lossEffects_ledger_of_removes hr
    rw [hq, hc, if_neg (fun h => by rw [h] at hr; cases hr), if_neg (fun h => by rw [h] at hr; cases hr)]
    exact ⟨rfl, rfl⟩
  | false =>
    unfold Part.lossEffects
    cases hs : (p.slot i).state <;> rw [hs] at hr
    case toteWait => exact p.stray_spin i
    case unloadReady => exact p.place_spin i
    case empty => exact ⟨rfl, rfl⟩
    case seated | spindown | powerWait | spinup =>
      refine ⟨(Part.spinQueue_of_ledger (Part.drivePulled_ledger i _)).trans ?_,
        (Part.spinCount_of_ledger (Part.drivePulled_ledger i _)).trans ?_⟩ <;> rfl
    all_goals cases hr

/-- The totes after a loss: a wait queue left, or a RESERVED entry placed (R183, R184). -/
theorem Part.lossEffects_totes (h1 : (p.slot i).state ≠ .toteWait) (h2 : (p.slot i).state ≠ .unloadReady) :
    (p.lossEffects i).totes = p.totes := by
  cases hr : (p.slot i).state.removes with
  | true => exact (Part.lossEffects_ledger_of_removes hr).2.2
  | false =>
    unfold Part.lossEffects
    cases hs : (p.slot i).state <;> rw [hs] at hr
    case toteWait => exact absurd hs h1
    case unloadReady => exact absurd hs h2
    case seated | spindown | powerWait | spinup =>
      refine (Part.totes_of_ledger (Part.drivePulled_ledger i _)).trans ?_
      rfl
    all_goals cases hr

theorem Part.lossEffects_tote_waiting {t : ToteId} (hs : (p.slot i).state = .toteWait) (ht : (p.slot i).tote = some t) :
    (p.lossEffects i).tote t = { p.tote t with wait := (p.tote t).wait.filter (· != i) } := by
  unfold Part.lossEffects Part.stray
  rw [hs]
  simp only [Part.raise_tote]
  rw [ht]
  exact Part.modTote_tote_self ..

theorem Part.lossEffects_tote_placed {t : ToteId} {pos : Nat} (hs : (p.slot i).state = .unloadReady)
    (ht : (p.slot i).tote = some t) (hp : (p.slot i).position = some pos) :
    (p.lossEffects i).tote t = { p.tote t with manifest := (p.tote t).manifest.map fun e =>
      if e.position = pos ∧ e.slot = i ∧ e.placed = false then { e with placed := true } else e } := by
  unfold Part.lossEffects Part.place
  rw [hs, ht, hp]
  simp only [Part.modTote_tote_self, Bool.and_eq_true, beq_iff_eq, Bool.not_eq_true', and_assoc]

end

/-! ## O32: the loss of a drive -/

/-- Everything of a presence loss but its grants (R38). -/
def Part.emptyOut (i : SlotId) (p : Part) : Part := ((p.lossEffects i).dropSend i).enterEmpty i

theorem Part.loseDrive_eq (i : SlotId) (p : Part) :
    p.loseDrive i = (p.emptyOut i).when ((p.slot i).state == .spinup) Part.grants := rfl

theorem Part.enterEmpty_ledger (i : SlotId) (p : Part) : (p.enterEmpty i).ledger = p.ledger :=
  Part.changeState_ledger _ _ _

theorem Part.emptyOut_ledger (i : SlotId) (p : Part) : (p.emptyOut i).ledger = (p.lossEffects i).ledger :=
  (Part.enterEmpty_ledger i _).trans (Part.dropSend_ledger i _)

theorem Part.emptyOut_quiet (i : SlotId) (p : Part) : (p.emptyOut i).quiet = p.quiet :=
  ((Part.lossEffects i p).dropSend_moves i).enterEmpty.quiet.trans (p.lossEffects_quiet i)

theorem Part.ZonesJudged.lossSent {p : Part} (h : p.ZonesJudged) (i : SlotId) :
    ((p.lossEffects i).dropSend i).ZonesJudged :=
  h.congr ((Part.dropSend_zones i _).trans (p.lossEffects_zones i))
    (Part.door_of_quiet (((Part.lossEffects i p).dropSend_moves i).quiet.trans (p.lossEffects_quiet i)))

theorem Part.ZonesJudged.emptyOut {p : Part} (h : p.ZonesJudged) (i : SlotId) : (p.emptyOut i).ZonesJudged :=
  ((h.lossSent i).modSlot i _).changeState i .empty

theorem Part.ZonesJudged.emptyOut_slot {p : Part} (h : p.ZonesJudged) (i : SlotId) :
    ∃ out, (p.slot i).Dropped out ∧ ∀ k, (p.emptyOut i).slot k =
      if k = i then Slot.emptied { p.slot i with laneTx := .idle, laneOut := out } else p.slot k := by
  obtain ⟨l, hl⟩ := p.lossEffects_slot i
  obtain ⟨out, hd, ho⟩ := (p.lossEffects i).dropSend_slot i
  have hself := hl i
  rw [Part.modSlot_slot_self] at hself
  rw [hself] at hd
  refine ⟨out, hd, fun k => ?_⟩
  unfold Part.emptyOut Part.enterEmpty
  rw [((h.lossSent i).modSlot i _).changeState_slot, Part.modSlot_modSlot]
  by_cases hk : k = i
  · subst hk
    rw [Part.modSlot_slot_self, ho, Part.modSlot_slot_self, hself, if_pos rfl]
    rfl
  · rw [Part.modSlot_slot_ne (Ne.symm hk), ho, Part.modSlot_slot_ne (Ne.symm hk), hl, Part.modSlot_slot_ne (Ne.symm hk),
      if_neg hk]

theorem Part.grants_totes (p : Part) : p.grants.totes = p.totes := by
  unfold Part.grants
  generalize p.spinQueue.length = k
  induction k generalizing p with
  | zero => rfl
  | succ k ih =>
    unfold Part.grantLoop
    split
    · rfl
    · split
      · rw [ih, Part.grant_totes]
      · rfl

theorem Part.loseDrive_totes (i : SlotId) (p : Part) : (p.loseDrive i).totes = (p.lossEffects i).totes := by
  rw [Part.loseDrive_eq]
  exact (Part.when_keeps _ _ (Part.grants_totes _)).trans (Part.totes_of_ledger (p.emptyOut_ledger i))

theorem Part.loseDrive_tote (i : SlotId) (p : Part) (t : ToteId) :
    (p.loseDrive i).tote t = (p.lossEffects i).tote t := by
  unfold Part.tote
  rw [Part.loseDrive_totes]

theorem Part.loseDrive_completions (i : SlotId) (p : Part) :
    (p.loseDrive i).trunk.completions =
      if (p.slot i).state.removes then p.trunk.completions ++ p.endCompletions i .removed else p.trunk.completions := by
  rw [Part.loseDrive_eq, ← Part.lossEffects_completions]
  exact (Part.when_keeps (v := (·.trunk.completions)) _ _ (Part.Moves.refl i _).grants.completions).trans
    (Part.completions_of_ledger (p.emptyOut_ledger i))

theorem Part.ZonesJudged.loseDrive_slot {p : Part} (h : p.ZonesJudged) {i : SlotId}
    (hi : (p.slot i).state = .spinup → i ∉ p.spinQueue) :
    ∃ out, (p.slot i).Dropped out ∧
      (p.loseDrive i).slot i = Slot.emptied { p.slot i with laneTx := .idle, laneOut := out } := by
  obtain ⟨out, hd, hs⟩ := h.emptyOut_slot i
  refine ⟨out, hd, ?_⟩
  have hi' := hs i
  rw [if_pos rfl] at hi'
  rw [Part.loseDrive_eq, ← hi']
  by_cases hspin : (p.slot i).state = .spinup
  · rw [beq_iff_eq.mpr hspin, Part.when_true]
    refine (h.emptyOut i).grants_slot ?_
    rw [Part.spinQueue_of_ledger (p.emptyOut_ledger i), (p.lossEffects_spin i).1,
      if_neg (by rw [hspin]; decide)]
    exact hi hspin
  · rw [beq_false_of_ne hspin, Part.when_false]

theorem SlotState.removes_iff (st : SlotState) :
    st.removes = true ↔ st ∈ [.ident, .running, .condemned, .draining] := by
  cases st <;> simp [SlotState.removes]

/-- A presence loss on a debounced line (R20, R38, R76). -/
theorem Part.loss_of_due {i : SlotId} {p : Part} (h : (p.slot i).presence.dueTo false = true) :
    p.loss i = if (p.slot i).state = .empty
      then (p.modSlot i fun x => { x with presence := ⟨false, false, none⟩ }).dropSend i
      else (p.modSlot i fun x => { x with presence := ⟨false, false, none⟩ }).loseDrive i := by
  have hm : (p.modSlot i fun x => { x with presence := x.presence.settle }) =
      p.modSlot i fun x => { x with presence := ⟨false, false, none⟩ } :=
    Part.modSlot_congr (by rw [Debounce.settle_of_dueTo h])
  unfold Part.loss
  rw [if_pos h]
  simp only [hm, Part.modSlot_slot_self]
  rfl

/-- Settles O32: in EMPTY the lane send alone is dropped; elsewhere the state's effects, then EMPTY, then the grants. -/
theorem presenceLossEmpties : Obligations.PresenceLossEmpties := by
  intro i s q due cut
  have hexec : exec (.presenceLoss i) s = .next (s.put (s.part.loss i)) := rfl
  have hdue : q.presence.dueTo false = true ↔ due := q.presence.dueTo_iff false
  refine ⟨fun hn => ?_, fun hd hz hspin => ?_⟩
  · rw [hexec]
    exact congrArg (fun p => Host.Outcome.next (s.put p)) (if_neg (mt hdue.mp hn))
  obtain ⟨p, hp⟩ : ∃ p, p = s.part.modSlot i fun x => { x with presence := ⟨false, false, none⟩ } := ⟨_, rfl⟩
  have hpi : p.slot i = { q with presence := ⟨false, false, none⟩ } := by rw [hp, Part.modSlot_slot_self]
  have hpk : ∀ k, k ≠ i → p.slot k = s.part.slot k := fun k hk => by rw [hp, Part.modSlot_slot_ne (Ne.symm hk)]
  have hpz : p.ZonesJudged := by rw [hp]; exact hz.modSlot i _
  have hstate : (p.slot i).state = q.state := by rw [hpi]
  rw [hexec, Part.loss_of_due (hdue.mpr hd), ← hp]
  by_cases he : q.state = .empty
  · obtain ⟨out, hdrop, hslot⟩ := p.dropSend_slot i
    have hledger : (p.dropSend i).ledger = s.part.ledger := (p.dropSend_ledger i).trans (by rw [hp]; rfl)
    have hself : (p.dropSend i).slot i =
        { q with presence := ⟨false, false, none⟩, laneTx := .idle, laneOut := out } := by
      rw [hslot, Part.modSlot_slot_self, hpi]
    rw [hpi] at hdrop
    obtain ⟨h1, h2, h3⟩ := hdrop
    refine ⟨p.dropSend i, by rw [if_pos (by exact he)], ?_, by rwa [hself], by rwa [hself], by rwa [hself], ?_,
      fun _ => ⟨Part.spinCount_of_ledger hledger, ?_, fun j hj => ?_⟩, fun h => ?_, fun t h => ?_, fun t pos h => ?_,
      fun _ _ => Part.totes_of_ledger hledger⟩
    · rw [hself]
      exact (if_pos he).symm
    · rw [if_neg (by rw [he]; decide)]
      exact Part.completions_of_ledger hledger
    · rw [if_neg (by rw [he]; decide)]
      exact Part.spinQueue_of_ledger hledger
    · rw [hslot, Part.modSlot_slot_ne (Ne.symm hj), hpk j hj]
    all_goals exact absurd (he.symm.trans h) (by decide)
  · obtain ⟨out, hdrop, hself⟩ := hpz.loseDrive_slot (i := i) (by rw [hstate, hp]; exact hspin)
    have hne : ∀ k, k ≠ i → (p.emptyOut i).slot k = s.part.slot k := fun k hk => by
      obtain ⟨_, -, hslot⟩ := hpz.emptyOut_slot i
      rw [hslot, if_neg hk, hpk k hk]
    obtain ⟨hqueue, hcount⟩ := p.lossEffects_spin i
    have hledger := p.emptyOut_ledger i
    have htote : ∀ t, p.tote t = s.part.tote t := fun t => by rw [hp]; rfl
    rw [hpi] at hdrop hself
    have hout : ((p.loseDrive i).slot i).laneOut = out := by rw [hself]; rfl
    obtain ⟨h1, h2, h3⟩ := hdrop
    refine ⟨p.loseDrive i, by rw [if_neg (by exact he)], ?_, by rwa [hout], by rwa [hout], by rwa [hout], ?_,
      fun hs => ?_, fun hs hsound => ?_, fun t hs ht => ?_, fun t pos hs ht hpos => ?_, fun hs1 hs2 => ?_⟩
    · rw [hout, hself]
      exact (if_neg he).symm
    · rw [Part.loseDrive_completions, hstate]
      simp only [SlotState.removes_iff]
      rw [Part.endCompletions_congr (p := s.part) (by rw [hpi]), hp]
      rfl
    · have heq : p.loseDrive i = p.emptyOut i := by
        rw [Part.loseDrive_eq, beq_false_of_ne (by rwa [hstate]), Part.when_false]
      rw [heq, Part.spinCount_of_ledger hledger, Part.spinQueue_of_ledger hledger, hqueue, hcount, hstate, if_neg hs]
      refine ⟨by rw [hp]; rfl, ?_, hne⟩
      have hf : (fun j => decide (j ≠ i)) = (· != i) := by funext j; rw [Bool.eq_iff_iff]; simp
      rw [hf, hp]
      rfl
    · have heq : p.loseDrive i = (p.emptyOut i).grants := by
        rw [Part.loseDrive_eq, beq_iff_eq.mpr (hstate.trans hs), Part.when_true]
      rw [hstate, if_neg (by rw [hs]; decide)] at hqueue
      rw [hstate, if_pos hs] at hcount
      have hquiet := (p.emptyOut_quiet i).trans (show p.quiet = s.part.quiet by rw [hp]; rfl)
      rw [heq]
      refine (hsound.grants_of_slots (hspin hs) hne ?_ ?_
        (Part.tables_of_quiet hquiet) (Part.door_of_quiet hquiet)).2
      · rw [Part.spinQueue_of_ledger hledger, hqueue, hp]; rfl
      · rw [Part.spinCount_of_ledger hledger, hcount, hp]; rfl
    · rw [Part.loseDrive_tote, Part.lossEffects_tote_waiting (by rw [hstate]; exact hs) (by rw [hpi]; exact ht), htote]
      refine congrArg (fun l => { s.part.tote t with wait := l }) (List.filter_congr fun j _ => ?_)
      rw [Bool.eq_iff_iff]
      simp
    · rw [Part.loseDrive_tote, Part.lossEffects_tote_placed (by rw [hstate]; exact hs) (by rw [hpi]; exact ht)
        (by rw [hpi]; exact hpos), htote]
    · rw [Part.loseDrive_totes, Part.lossEffects_totes (by rwa [hstate]) (by rwa [hstate]), hp]
      rfl

end Sys2Proof.Machine

namespace Sys2Proof.Machine

/-! ## O22: TOTE_SWAP (R182, R185) -/

/-- What serving a tote's wait queue `l` leaves, with `room` places free after the `n` that are taken (R182): the slots
at the head have the next places, in order, and nothing else of the slots, the totes and the completions moves. -/
structure Part.Served (t : ToteId) (room n : Nat) (l : List SlotId) (p p' : Part) : Prop where
  state : (p'.tote t).state = if room ≤ l.length then .full else .opened
  wait : (p'.tote t).wait = l.drop room
  fill : (p'.tote t).manifest.length = n + min room l.length
  placed : ∀ (j : Nat) (i : SlotId), j < room → l[j]? = some i →
    (p'.slot i).state = .unloadReady ∧ (p'.slot i).position = some (n + j + 1)
  others : ∀ i, i ∉ l.take room → (p.slot i).Like (p'.slot i) ∧ (p.ZonesJudged → p'.slot i = p.slot i)
  totes : ∀ u, u ≠ t → p'.tote u = p.tote u
  completions : p'.trunk.completions = p.trunk.completions

/-- The next slot of a wait queue takes its place. -/
def Part.serveNext (t : ToteId) (i : SlotId) (rest : List SlotId) (p : Part) : Part :=
  (p.modTote t fun q => { q with wait := rest }).reserve t i

theorem Part.serveQueue_of_next {t : ToteId} {i : SlotId} {rest : List SlotId} {p : Part}
    (hs : (p.tote t).state = .opened) (hw : (p.tote t).wait = i :: rest) (k : Nat) :
    p.serveQueue t (k + 1) = (p.serveNext t i rest).serveQueue t k := by
  rw [Part.serveQueue, hs, hw]
  rfl

theorem Part.serveQueue_of_full {t : ToteId} {p : Part} (hs : (p.tote t).state = .full) (k : Nat) :
    p.serveQueue t k = p := by
  cases k with
  | zero => rfl
  | succ k => rw [Part.serveQueue, hs]

section
variable {t : ToteId} {i : SlotId} {rest : List SlotId} {p : Part}

theorem Part.serveNext_tote (u : ToteId) : (p.serveNext t i rest).tote u =
    if u = t then { p.reserved t i (p.slot i) with wait := rest } else p.tote u := by
  unfold Part.serveNext
  rw [Part.reserve_tote]
  by_cases hu : u = t
  · rw [if_pos hu, if_pos hu]
    unfold Part.reserved
    rw [Part.modTote_tote_self]
    rfl
  · rw [if_neg hu, if_neg hu, Part.modTote_tote_ne (Ne.symm hu)]

theorem Part.serveNext_like (k : SlotId) :
    (if k = i then (p.slot i).inPlace ((p.tote t).manifest.length + 1) else p.slot k).Like
      ((p.serveNext t i rest).slot k) := by
  have h := Part.reserve_like t i (p.modTote t fun q => { q with wait := rest }) k
  rwa [Part.modTote_tote_self] at h

theorem Part.serveNext_moves : ((p.modTote t fun q => { q with wait := rest }).Moves i (p.serveNext t i rest)) :=
  (Part.Moves.refl i _).reserve t

theorem Part.ZonesJudged.serveNext (h : p.ZonesJudged) : (p.serveNext t i rest).ZonesJudged :=
  Part.serveNext_moves.zonesJudged (p := p.modTote t fun q => { q with wait := rest }) h

theorem Part.ZonesJudged.serveNext_slot (h : p.ZonesJudged) {k : SlotId} (hk : k ≠ i) :
    (p.serveNext t i rest).slot k = p.slot k := by
  have h' : (p.modTote t fun q => { q with wait := rest }).ZonesJudged := h
  unfold Part.serveNext
  rw [Part.reserve_slot (.inl h'), if_neg hk]
  rfl

/-- One slot served: what is left of the queue is served as `h` says. -/
theorem Part.Served.next {room n : Nat} {p' : Part} (hi : i ∉ rest) (hn : (p.tote t).manifest.length = n)
    (h : Part.Served t room (n + 1) rest (p.serveNext t i rest) p') : p.Served t (room + 1) n (i :: rest) p' := by
  refine ⟨?_, ?_, ?_, ?_, ?_, ?_, ?_⟩
  · rw [h.state]
    simp
  · rw [h.wait, List.drop_succ_cons]
  · rw [h.fill, List.length_cons]
    omega
  · rintro j k hj hk
    cases j with
    | zero =>
      obtain rfl : i = k := by simpa using hk
      obtain ⟨b, hb⟩ := (Part.serveNext_like (p := p) (t := t) (i := i) (rest := rest) i).trans
        (h.others i fun hm => hi (List.mem_of_mem_take hm)).1
      rw [if_pos rfl, hn] at hb
      rw [hb]
      exact ⟨rfl, rfl⟩
    | succ j =>
      have := h.placed j k (by omega) (by simpa using hk)
      rwa [show n + 1 + j + 1 = n + (j + 1) + 1 by omega] at this
  · intro k hk
    rw [List.take_succ_cons] at hk
    obtain ⟨hki, hkr⟩ := List.ne_and_not_mem_of_not_mem_cons hk
    obtain ⟨hl, hj⟩ := h.others k hkr
    have h1 := Part.serveNext_like (p := p) (t := t) (i := i) (rest := rest) k
    rw [if_neg hki] at h1
    exact ⟨h1.trans hl, fun hz => (hj hz.serveNext).trans (hz.serveNext_slot hki)⟩
  · intro u hu
    rw [h.totes u hu, Part.serveNext_tote, if_neg hu]
  · exact h.completions.trans Part.serveNext_moves.completions

end

/-- A wait queue without room, or with no slot in it, is served already. -/
theorem Part.Served.refl {t : ToteId} {room n : Nat} {l : List SlotId} {p : Part} (h : room = 0 ∨ l = [] ∧ 0 < room)
    (hs : (p.tote t).state = if room = 0 then .full else .opened) (hw : (p.tote t).wait = l)
    (hn : (p.tote t).manifest.length = n) : p.Served t room n l p := by
  refine ⟨?_, ?_, ?_, ?_, fun i _ => ⟨.refl _, fun _ => rfl⟩, fun _ _ => rfl, rfl⟩
  · rw [hs]
    obtain rfl | ⟨rfl, h⟩ := h
    · simp
    · rw [if_neg (by omega), if_neg (by simp; omega)]
  · obtain rfl | ⟨rfl, -⟩ := h <;> simp [hw]
  · obtain rfl | ⟨rfl, -⟩ := h <;> simp [hn]
  · intro j i hj hi
    obtain rfl | ⟨rfl, -⟩ := h
    · omega
    · simp at hi

/-- A wait queue with each slot in it once is served from its head, until the tote is full or the queue empty. -/
theorem Part.serveQueue_served {t : ToteId} (l : List SlotId) (hl : l.Nodup) {p : Part}
    (hs : (p.tote t).state = .opened) (hw : (p.tote t).wait = l) (hcap : (p.tote t).manifest.length < p.capacity t) :
    p.Served t (p.capacity t - (p.tote t).manifest.length) (p.tote t).manifest.length l (p.serveQueue t l.length) := by
  induction l generalizing p with
  | nil => exact .refl (.inr ⟨rfl, by omega⟩) (by rw [hs, if_neg (by omega)]) hw rfl
  | cons i rest ih =>
    obtain ⟨hi, hrest⟩ := List.nodup_cons.mp hl
    have htote := Part.serveNext_tote (p := p) (t := t) (i := i) (rest := rest) t
    rw [if_pos rfl] at htote
    have hfill : ((p.serveNext t i rest).tote t).manifest.length = (p.tote t).manifest.length + 1 := by
      rw [htote]
      simp [Part.reserved]
    have hcapacity : (p.serveNext t i rest).capacity t = p.capacity t := by
      unfold Part.capacity
      rw [Part.tables_of_quiet Part.serveNext_moves.quiet]
      rfl
    have hstate : ((p.serveNext t i rest).tote t).state =
        if (p.tote t).manifest.length + 1 = p.capacity t then .full else .opened := by
      rw [htote, ← hs]
      rfl
    have hwait : ((p.serveNext t i rest).tote t).wait = rest := by rw [htote]
    rw [List.length_cons, Part.serveQueue_of_next hs hw,
      show p.capacity t - (p.tote t).manifest.length = p.capacity t - ((p.tote t).manifest.length + 1) + 1 by omega]
    refine Part.Served.next hi rfl ?_
    by_cases hfull : (p.tote t).manifest.length + 1 = p.capacity t
    · rw [if_pos hfull] at hstate
      rw [Part.serveQueue_of_full hstate, show p.capacity t - ((p.tote t).manifest.length + 1) = 0 by omega]
      exact .refl (.inl rfl) hstate hwait hfill
    · rw [if_neg hfull] at hstate
      have h := ih hrest hstate hwait (by rw [hfill, hcapacity]; omega)
      rwa [hfill, hcapacity] at h

/-- A swapped tote, about to be served (R185). -/
def Part.swapped (t : ToteId) (p : Part) : Part := p.modTote t fun q => { q with manifest := [], state := .opened }

theorem Part.swap_served {t : ToteId} {p : Part} (hl : (p.tote t).wait.Nodup) (hcap : 1 ≤ p.capacity t) :
    (p.swapped t).Served t (p.capacity t) 0 (p.tote t).wait (p.swap t) := by
  have ht : (p.swapped t).tote t = { p.tote t with manifest := [], state := .opened } := Part.modTote_tote_self ..
  have h := Part.serveQueue_served (p := p.swapped t) (t := t) (p.tote t).wait hl (by rw [ht]) (by rw [ht])
    (by rw [ht]; exact hcap)
  rw [ht] at h
  unfold Part.swap Part.serve
  change Part.Served t _ _ _ _ ((p.swapped t).serveQueue t ((p.swapped t).tote t).wait.length)
  rw [ht]
  exact h

theorem Tote.busy_iff (x : Tote) : x.busy = true ↔ ∃ e ∈ x.manifest, e.placed = false := by
  simp [Tote.busy]

/-- Settles O22: the checks in their order, and the swap with its wait queue served. -/
theorem toteSwapAnswers : Obligations.ToteSwapAnswers := by
  intro source tag n rest s r hhead
  have hexec : ∀ {a : Answer}, serveToteSwap r (s.part.taken r rest) = a →
      exec .toteSwap s = .next (s.put (a.part.respond ⟨255, tag, a.status, a.clamped, a.content⟩)) := by
    intro a ha
    refine congrArg (fun p => Host.Outcome.next (s.put p)) ?_
    rw [Part.take_of_head hhead rfl rfl rfl, ha]
    rfl
  have hserve : serveToteSwap r (s.part.taken r rest) =
      if 7 < n.toNat then .no .badIndex (s.part.taken r rest)
      else if ((s.part.taken r rest).tote (finN 7 n.toNat)).busy then .no .toteBusy (s.part.taken r rest)
      else .ok [] ((s.part.taken r rest).swap (finN 7 n.toNat)) := by
    unfold serveToteSwap
    rw [Request.arg_singleton]
  refine ⟨fun hn => ?_, fun hn => ⟨fun hb => ?_, fun hb hcap hnd => ?_⟩⟩
  · exact hexec (a := .no .badIndex (s.part.taken r rest)) (by rw [hserve, if_pos hn])
  all_goals rw [if_neg (by omega), finN_of_lt hn] at hserve
  · refine hexec (a := .no .toteBusy (s.part.taken r rest)) ?_
    rw [hserve, if_pos]
    exact (Tote.busy_iff _).mpr hb
  · have hnot : ¬ ((s.part.taken r rest).tote ⟨n.toNat, hn⟩).busy = true := by
      rw [Tote.busy_iff]
      rintro ⟨e, he, hp⟩
      exact Bool.false_ne_true (hp.symm.trans (hb e he))
    rw [if_neg hnot] at hserve
    have hs := Part.swap_served (p := s.part.taken r rest) (t := ⟨n.toNat, hn⟩) hnd hcap
    refine ⟨(s.part.taken r rest).swap ⟨n.toNat, hn⟩, hexec hserve, hs.state, hs.wait, ?_, fun j i hj hi => ?_,
      fun i hi => ?_, fun u hu => ?_, hs.completions⟩
    · exact hs.fill.trans (Nat.zero_add _)
    · have := hs.placed j i hj hi
      rwa [Nat.zero_add] at this
    · obtain ⟨hl, hj⟩ := hs.others i hi
      exact .of_like hl hj
    · rw [hs.totes u hu]
      exact Part.modTote_tote_ne (Ne.symm hu) _ _

end Sys2Proof.Machine

namespace Sys2Proof.Machine

/-! ## O28: the tick of the Time Base (R47, R49) -/

/-- A running timer's count after some ticks: all of them, until the timer is due (R49). -/
theorem Timer.tick_iterate_start (N n : Nat) : Timer.tick^[n] (Timer.start N) = ⟨N, min (N + 1) n⟩ := by
  induction n with
  | zero => rfl
  | succ n ih =>
    rw [Function.iterate_succ_apply', ih]
    simp only [Timer.tick, Timer.mk.injEq, true_and]
    omega

theorem Timer.due_tick_iterate_start (N n : Nat) : (Timer.tick^[n] (Timer.start N)).due = decide (N < n) := by
  rw [Timer.tick_iterate_start]
  exact decide_eq_decide.mpr (show N < min (N + 1) n ↔ N < n by omega)

/-- What is seen of a conditional effect. -/
theorem Part.apply_when {α : Type} (v : Part → α) (c : Bool) (f : Part → Part) (p : Part) :
    v (p.when c f) = if c then v (f p) else v p := by
  cases c <;> rfl

theorem Loader.tick_eq (l : Loader) :
    l.tick = { l with counted := if l.phase = .loading then l.counted + 1 else l.counted } := by
  unfold Loader.tick
  split
  next h => rw [if_pos h]
  next h => rw [if_neg (by rw [h]; exact nofun)]

theorem Loader.tick_phase (l : Loader) : l.tick.phase = l.phase := by rw [Loader.tick_eq]

section
variable (p : Part)

theorem Part.advance_of_lt (h : p.ms < 999) : p.advance = { p with ms := p.ms + 1 } := if_neg (by omega)

theorem Part.advance_of_le (h : 999 ≤ p.ms) : p.advance = { p with ms := 0, seconds := p.seconds + 1 } := if_pos h

/-- The counts touch nothing else (R47). -/
theorem Part.advance_eq : p.advance = { p with ms := p.advance.ms, seconds := p.advance.seconds } := by
  unfold Part.advance
  split <;> rfl

/-- The tick, by the millisecond count that it comes to: the counting of 100 ms timers does not touch that. -/
theorem Part.tick_eq : p.tick = (p.advance.count1.when (p.advance.ms % 100 == 0) Part.count100).when
    (p.advance.ms == 0) Part.countSecond := rfl

/-- What none of the three countings touches, the tick leaves as the counts of the Time Base leave it. -/
theorem Part.tick_keeps {α : Type} {v : Part → α} (h1 : ∀ q : Part, v q.count1 = v q)
    (h100 : ∀ q : Part, v q.count100 = v q) (hs : ∀ q : Part, v q.countSecond = v q) : v p.tick = v p.advance := by
  rw [Part.tick_eq, Part.when_keeps _ _ (hs _), Part.when_keeps _ _ (h100 _), h1]

theorem Part.tick_ms : p.tick.ms = p.advance.ms := p.tick_keeps (fun _ => rfl) (fun _ => rfl) fun _ => rfl

theorem Part.tick_seconds : p.tick.seconds = p.advance.seconds :=
  p.tick_keeps (fun _ => rfl) (fun _ => rfl) fun _ => rfl

theorem Part.tick_door : p.tick.door = p.door.tick := by
  rw [Part.tick_eq, Part.when_keeps (v := Part.door) _ _ rfl, Part.when_keeps (v := Part.door) _ _ rfl, Part.advance_eq]
  rfl

theorem Part.tick_loader : p.tick.loader = p.loader.tick := by
  rw [Part.tick_eq, Part.when_keeps (v := Part.loader) _ _ rfl, Part.when_keeps (v := Part.loader) _ _ rfl,
    Part.advance_eq]
  rfl

/-- What the tick leaves alone. -/
theorem Part.tick_frame : p.tick = { p with
    seconds := p.tick.seconds, ms := p.tick.ms, door := p.tick.door, busRead := p.tick.busRead,
    zones := p.tick.zones, slots := p.tick.slots, loader := p.tick.loader } := by
  rw [Part.tick_eq, Part.advance_eq]
  cases p.advance.ms % 100 == 0 <;> cases p.advance.ms == 0 <;> rfl

theorem Part.tick_busRead : p.tick.busRead =
    if p.tick.ms = 0 ∧ p.loader.phase = .ready ∧ p.busRead = none then some (beginRead 0)
    else p.busRead.map fun b => { b with timer := b.timer.tick } := by
  rw [Part.tick_ms, Part.tick_eq, Part.apply_when Part.busRead]
  have hread : (p.advance.count1.when (p.advance.ms % 100 == 0) Part.count100).busRead =
      p.busRead.map fun b => { b with timer := b.timer.tick } := by
    rw [Part.when_keeps (v := Part.busRead) _ _ rfl, Part.advance_eq]
    rfl
  have hphase : (p.advance.count1.when (p.advance.ms % 100 == 0) Part.count100).loader.phase = p.loader.phase := by
    rw [Part.when_keeps (v := fun q => q.loader.phase) _ _ rfl, Part.advance_eq]
    exact p.loader.tick_phase
  unfold Part.countSecond
  simp only [hread, hphase, beq_iff_eq, Option.map_eq_none_iff]
  split
  next h0 => simp [h0]
  next h0 => simp [h0]

theorem Part.count100_zone (z : ZoneId) : p.count100.zone z = (p.zone z).beginPeriod := by
  simp [Part.count100, Part.zone]

theorem Part.countSecond_zone (z : ZoneId) : p.countSecond.zone z = (p.zone z).tickSecond := by
  simp [Part.countSecond, Part.zone]

/-- A zone on a tick that comes to the millisecond count `m`: a heater period, and then the alarm timer. -/
theorem Zone.onTick_eq (x : Zone) (m : Nat) :
    (if m = 0 then (if m % 100 = 0 then x.beginPeriod else x).tickSecond
      else if m % 100 = 0 then x.beginPeriod else x) =
      { x with
        heldDuty := if m % 100 = 0 then x.duty else x.heldDuty
        alarm := match x.alarm with
          | .running t => .running (if m = 0 then t.tick else t)
          | .stopped => .stopped
          | .expired => .expired } := by
  obtain ⟨_, _, _, _, _, _, _, _, _, _, _, _, _, alarm⟩ := x
  by_cases hs : m = 0
  · subst hs
    cases alarm <;> rfl
  · simp only [hs, if_false]
    cases alarm <;> (split <;> rfl)

theorem Part.advance_zone (z : ZoneId) : p.advance.zone z = p.zone z := by rw [Part.advance_eq]; rfl

theorem Part.advance_slot (i : SlotId) : p.advance.slot i = p.slot i := by rw [Part.advance_eq]; rfl

theorem Part.tick_zone (z : ZoneId) : p.tick.zone z =
    { p.zone z with
      heldDuty := if p.tick.ms % 100 = 0 then (p.zone z).duty else (p.zone z).heldDuty
      alarm := match (p.zone z).alarm with
        | .running t => .running (if p.tick.ms = 0 then t.tick else t)
        | .stopped => .stopped
        | .expired => .expired } := by
  have h1 : p.advance.count1.zone z = p.zone z := p.advance_zone z
  rw [Part.tick_ms, Part.tick_eq, Part.apply_when (·.zone z), Part.countSecond_zone, Part.apply_when (·.zone z),
    Part.count100_zone, h1]
  simp only [beq_iff_eq]
  exact Zone.onTick_eq _ _

theorem Part.count1_slot (i : SlotId) : p.count1.slot i = (p.slot i).tick1 := p.modAllSlots_slot _ i

theorem Part.count100_slot (i : SlotId) : p.count100.slot i = (p.slot i).tick100 := Part.modAllSlots_slot _ p i

theorem Part.countSecond_slot (i : SlotId) : p.countSecond.slot i = (p.slot i).tickSecond := Part.modAllSlots_slot _ p i

theorem Part.tick_slot (i : SlotId) : p.tick.slot i =
    let q := p.slot i
    let sec (o : Option Timer) : Option Timer := if p.tick.ms = 0 then tickTimer o else o
    { q with
      presence := { q.presence with timer := tickTimer q.presence.timer }
      eject := { q.eject with timer := tickTimer q.eject.timer }
      outstanding := if p.tick.ms % 100 = 0 then q.outstanding.map Entry.tick else q.outstanding
      noShowTimer := sec q.noShowTimer
      silenceTimer := sec q.silenceTimer
      recoveryTimer := sec q.recoveryTimer
      holdTimer := sec q.holdTimer
      spinupTimer := sec q.spinupTimer
      spindownTimer := sec q.spindownTimer
      ticksDue := if p.tick.ms = 0 then q.ticksDue + 1 else q.ticksDue } := by
  rw [Part.tick_ms, Part.tick_eq, Part.apply_when (·.slot i), Part.countSecond_slot, Part.apply_when (·.slot i),
    Part.count100_slot, Part.count1_slot, Part.advance_slot]
  simp only [beq_iff_eq]
  by_cases hs : p.advance.ms = 0
  · simp only [hs, Nat.zero_mod, if_true]
    rfl
  · simp only [hs, if_false]
    split <;> rfl

end

/-- Settles O28: each field of the tick as its counting leaves it, and a timer's count after any number of ticks. -/
theorem timeBaseTickCounts : Obligations.TimeBaseTickCounts := by
  refine ⟨fun s => ⟨s.part.tick, rfl, fun h => ?_, fun h => ?_, s.part.tick_door, s.part.tick_busRead,
    s.part.tick_zone, ?_, s.part.tick_frame, s.part.tick_slot⟩, fun N n _ => Timer.due_tick_iterate_start N n⟩
  · rw [Part.tick_ms, Part.tick_seconds, Part.advance_of_lt _ h]
    exact ⟨rfl, rfl⟩
  · rw [Part.tick_ms, Part.tick_seconds, Part.advance_of_le _ h]
    exact ⟨rfl, rfl⟩
  · rw [Part.tick_loader, Loader.tick_eq]

end Sys2Proof.Machine

namespace Sys2Proof

/-! ## The value of a field (R201) -/

theorem beVal_lt (l : List Byte) : beVal l < 256 ^ l.length := by
  induction l with
  | nil => decide
  | cons b l ih =>
    rw [beVal_cons, List.length_cons, pow_succ]
    have hb : b.toNat < 256 := b.isLt
    nlinarith

theorem field_lt (c : List Byte) (off len : Nat) : field c off len < 256 ^ len := by
  refine (beVal_lt _).trans_le (Nat.pow_le_pow_right (by decide) ?_)
  exact List.length_take_le _ _

end Sys2Proof

namespace Sys2Proof.Machine

/-! ## O59: the stored ranges (R50, R51, R67, R68, R108, R175, R192, Table 8-4, Table 11-2)

What is stored is first clamped, or refused. -/

/-- What holds of every entry of a table holds after one more that it holds of is stored. -/
theorem forall_getElem_set {α : Type} {n : Nat} {P : α → Prop} {v : Vector α n} (h : ∀ k : Fin n, P v[k]) (i : Fin n)
    {a : α} (ha : P a) (k : Fin n) : P (v.set i a)[k] := by
  rw [Fin.getElem_fin, Vector.getElem_set]
  split
  · exact ha
  · exact h k

theorem le_clampN {lo hi : Nat} (a : Nat) : lo ≤ clampN lo hi a := le_max_left _ _

theorem clampN_le {lo hi : Nat} (h : lo ≤ hi) (a : Nat) : clampN lo hi a ≤ hi := max_le h (min_le_left _ _)

theorem clampSetPoint_range (x : Int) : clampSetPoint x = 0 ∨ (40 ≤ clampSetPoint x ∧ clampSetPoint x ≤ 170) := by
  unfold clampSetPoint clampZ
  split
  · exact .inl rfl
  · exact .inr (by omega)

theorem ClassEntry.clamp_inRange (e : ClassEntry) : e.clamp.InRange :=
  ⟨le_clampN _, clampN_le (by decide) _, le_clampN _, clampN_le (by decide) _⟩

theorem rawRecipe_inRange {c : List Byte} (h : badValue .recipe c = false) : (rawRecipe c).InRange := by
  simp only [badValue, Bool.or_eq_false_iff, decide_eq_false_iff_not, not_lt] at h
  obtain ⟨⟨⟨hfirst, hcount⟩, -⟩, hsum⟩ := h
  exact ⟨hfirst, hcount, hsum⟩

/-- A time limit below the dwell is raised to it (R51). -/
theorem StepEntry.clamp_inRange (e : StepEntry) : e.clamp.InRange := by
  refine ⟨clampSetPoint_range _, clampN_le (by decide) _, le_clampN _, clampN_le (by decide) _, ?_,
    clampN_le (by decide) _⟩
  unfold StepEntry.clamp
  simp only
  split <;> omega

theorem rawLimit_clamp_inRange {c : List Byte} (h : badValue .limitSet c = false) : (rawLimit c).clamp.InRange := by
  simp only [badValue, LimitSet.decreasing, Bool.or_eq_false_iff, decide_eq_false_iff_not, not_lt] at h
  obtain ⟨⟨⟨⟨h12, h23⟩, h34⟩, h45⟩, h56⟩ := h
  exact ⟨h12, h23, h34, h45, h56, clampN_le (by decide) _, clampN_le (by decide) _⟩

/-- A trunk type from 0x0600 on stays one as the 16 bits of its field (R200). -/
theorem trunkType_inRange {c : List Byte} {off : Nat} (h : 0x0600 ≤ field c off 2) :
    0x0600 ≤ (BitVec.ofNat 16 (field c off 2)).toNat := by
  have hlt : field c off 2 < 2 ^ 16 := field_lt c off 2
  rwa [BitVec.toNat_ofNat, Nat.mod_eq_of_lt hlt]

theorem rawRack_clamp_inRange {c : List Byte} (h : badValue .rackSettings c = false) : (rawRack c).clamp.InRange := by
  simp only [badValue, decide_eq_false_iff_not, not_lt] at h
  exact ⟨trunkType_inRange h, ⟨le_clampN _, clampN_le (by decide) _⟩, ⟨le_clampN _, clampN_le (by decide) _⟩,
    clampN_le (by decide) _, clampN_le (by decide) _, ⟨le_clampN _, clampN_le (by decide) _⟩, clampN_le (by decide) _,
    ⟨le_clampN _, clampN_le (by decide) _⟩, ⟨le_clampN _, clampN_le (by decide) _⟩, clampN_le (by decide) _,
    clampN_le (by decide) _, clampN_le (by decide) _, clampN_le (by decide) _, clampN_le (by decide) _,
    ⟨le_clampN _, clampN_le (by decide) _⟩, le_clampN _, clampN_le (by decide) _⟩

/-- What the code check of R68 excludes. -/
theorem Part.ne_of_duplicateCode_eq_false {p : Part} {k : Nat} {code : Byte} (h : p.duplicateCode k code = false)
    {j : Fin 64} (hj : j.val ≠ k) (hv : p.tables.filters[j].valid = true) : p.tables.filters[j].code ≠ code := by
  intro he
  have hmem : (p.tables.filters[j], j.val) ∈ p.tables.filters.toList.zipIdx :=
    List.mk_mem_zipIdx_iff_getElem?.mpr (by simp)
  refine List.any_eq_false.mp h _ hmem ?_
  rw [hv, he, beq_self_eq_true, bne_iff_ne.mpr hj]
  rfl

/-- Valid entries of a filter table have distinct codes (R68). -/
def FiltersDistinct (v : Vector FilterEntry 64) : Prop :=
  ∀ j k : Fin 64, v[j].valid = true → v[k].valid = true → v[j].code = v[k].code → j = k

/-- A filter entry with a code of its own is stored. -/
theorem FiltersDistinct.set {v : Vector FilterEntry 64} (h : FiltersDistinct v) {i : Fin 64} {f : FilterEntry}
    (hf : f.valid = true → ∀ j : Fin 64, j ≠ i → v[j].valid = true → v[j].code ≠ f.code) :
    FiltersDistinct (v.set i f) := by
  have hget : ∀ j : Fin 64, (v.set i f)[j] = if j = i then f else v[j] := fun j => by
    simp [Vector.getElem_set, Fin.ext_iff, eq_comm]
  intro j k hj hk hcode
  rw [hget] at hj hk hcode
  rw [hget] at hcode
  by_cases hji : j = i <;> by_cases hki : k = i
  · rw [hji, hki]
  · rw [if_pos hji] at hj hcode
    rw [if_neg hki] at hk hcode
    exact absurd hcode.symm (hf hj k hki hk)
  · rw [if_neg hji] at hj hcode
    rw [if_pos hki] at hk hcode
    exact absurd hcode (hf hk j hji hj)
  · rw [if_neg hji] at hj hcode
    rw [if_neg hki] at hk hcode
    exact h j k hj hk hcode

/-- The capacity stored for a tote (R175): at least 1, since a value of 0 is refused. -/
theorem one_le_clampCapacity {fill cap : Nat} (h : cap ≠ 0) : 1 ≤ clampCapacity fill cap := by
  unfold clampCapacity
  omega

theorem Part.storeCapacity_tables (t : ToteId) (cap : Nat) (p : Part) :
    (p.storeCapacity t cap).tables = { p.tables with capacities := p.tables.capacities.set t cap } :=
  Part.tables_of_quiet (Part.capacityChanged_quiet t cap _)

theorem Part.storeRack_tables (e : RackSettings) (p : Part) :
    (p.storeRack e).tables = { p.tables with rack := e } := by
  unfold Part.storeRack
  refine Part.tables_of_quiet (p := p.modTables fun t => { t with rack := e }) ?_
  rw [Part.when_quiet Part.grants_quiet, Part.eachFree_quiet (Part.enableChange_quiet _)]

/-- An entry past the checks of R8 is stored in its range. -/
theorem Part.store_inRange {p : Part} (h : p.tables.InRange) {t : Table} {k : Nat} {c : List Byte} (hk : k < t.entries)
    (hb : badValue t c = false) (hd : p.duplicate t k c = false) : (p.store t k c).1.tables.InRange := by
  obtain ⟨hclasses, hrecipes, hsteps, hlimits, hcaps, hlevels, hrack, hfilters⟩ := h
  cases t with
  | classTable =>
    exact ⟨forall_getElem_set hclasses _ (ClassEntry.clamp_inRange _), hrecipes, hsteps, hlimits, hcaps, hlevels, hrack,
      hfilters⟩
  | filter =>
    refine ⟨hclasses, hrecipes, hsteps, hlimits, hcaps, hlevels, hrack,
      FiltersDistinct.set hfilters fun hv j hj hjv => ?_⟩
    rw [finN_of_lt hk] at hj
    refine Part.ne_of_duplicateCode_eq_false ?_ (fun e => hj (Fin.ext e)) hjv
    exact Bool.and_eq_false_imp.mp hd hv
  | recipe =>
    exact ⟨hclasses, forall_getElem_set hrecipes _ (rawRecipe_inRange hb), hsteps, hlimits, hcaps, hlevels, hrack,
      hfilters⟩
  | step =>
    exact ⟨hclasses, hrecipes, forall_getElem_set hsteps _ (StepEntry.clamp_inRange _), hlimits, hcaps, hlevels, hrack,
      hfilters⟩
  | limitSet =>
    exact ⟨hclasses, hrecipes, hsteps, forall_getElem_set hlimits _ (rawLimit_clamp_inRange hb), hcaps, hlevels, hrack,
      hfilters⟩
  | bin => exact ⟨hclasses, hrecipes, hsteps, hlimits, hcaps, hlevels, hrack, hfilters⟩
  | toteSettings =>
    have hcap : field c 0 1 ≠ 0 := by simpa [badValue] using hb
    rw [Part.store, Part.storeCapacity_tables]
    exact ⟨hclasses, hrecipes, hsteps, hlimits, forall_getElem_set hcaps _ (one_le_clampCapacity hcap), hlevels, hrack,
      hfilters⟩
  | noticeLevel =>
    exact ⟨hclasses, hrecipes, hsteps, hlimits, hcaps,
      forall_getElem_set (P := (· ≤ 7)) hlevels _ (clampN_le (by decide) _), hrack, hfilters⟩
  | rackSettings =>
    rw [Part.store, Part.storeRack_tables]
    exact ⟨hclasses, hrecipes, hsteps, hlimits, hcaps, hlevels, rawRack_clamp_inRange hb, hfilters⟩

/-! ### LOAD_ENTRY (R8) -/

/-- What the checks of R8 leave of a body that passes them. -/
theorem Part.checks_of_loadRefusal {p : Part} {body : List Byte} {t : Table} (ht : tableOf (field body 0 1) = some t)
    (h : p.loadRefusal body = none) :
    field body 1 1 < t.entries ∧ badValue t (body.drop 2) = false ∧
      p.duplicate t (field body 1 1) (body.drop 2) = false := by
  unfold Part.loadRefusal at h
  simp only [ht] at h
  split at h
  · cases h
  · split at h
    · cases h
    · split at h
      · cases h
      next hk =>
        split at h
        · cases h
        · split at h
          · cases h
          next hb =>
            split at h
            · cases h
            next hd => exact ⟨not_le.mp hk, Bool.eq_false_iff.mpr hb, Bool.eq_false_iff.mpr hd⟩

/-- A body stores nothing, or one entry past the checks of R8. -/
theorem Part.load_cases (body : List Byte) (p : Part) :
    (p.load body).part = p ∨ ∃ (t : Table) (k : Nat) (c : List Byte), k < t.entries ∧ badValue t c = false ∧
      p.duplicate t k c = false ∧ (p.load body).part = (p.store t k c).1 := by
  unfold Part.load
  split
  · exact .inl rfl
  · split
    · exact .inl rfl
    next hr =>
      split
      · exact .inl rfl
      next t ht =>
        obtain ⟨hk, hb, hd⟩ := Part.checks_of_loadRefusal ht hr
        exact .inr ⟨t, _, _, hk, hb, hd, rfl⟩

/-! ### Power-on -/

theorem forall_getElem_replicate {α : Type} {n : Nat} {P : α → Prop} {a : α} (ha : P a) (k : Fin n) :
    P (Vector.replicate n a)[k] := by
  rw [Fin.getElem_fin, Vector.getElem_replicate]
  exact ha

theorem TableStore.powerUp_inRange : TableStore.powerUp.InRange := by
  refine ⟨forall_getElem_replicate ?_, forall_getElem_replicate ?_, forall_getElem_replicate ?_,
    forall_getElem_replicate ?_, forall_getElem_replicate (P := (1 ≤ ·)) ?_, by decide, ?_, fun j _ hj => ?_⟩
  · unfold ClassEntry.InRange; decide
  · unfold RecipeEntry.InRange; decide
  · unfold StepEntry.InRange; decide
  · unfold LimitSet.InRange; decide
  · decide
  · unfold RackSettings.InRange; decide
  · have hnone := forall_getElem_replicate (P := fun f : FilterEntry => f.valid = false) (a := ⟨false, 0, 0⟩) rfl j
    exact absurd (hnone.symm.trans hj) Bool.false_ne_true

end Sys2Proof.Machine

namespace Sys2Proof.Machine

/-! ## Sound totes (R175 to R177)

A tote that is being served (R182) is filled as it should be, while slots wait for it in OPEN: `Tote.Filled` is what
serving keeps, and what is left to it is the empty wait queue. -/

/-- A tote's manifest and state fit its capacity (R175, R177). -/
structure Tote.Filled (cap : Nat) (x : Tote) : Prop where
  bound : cap ≤ 60
  positions : x.manifest.map (·.position) = List.range' 1 x.manifest.length
  absent : x.state = .absent → x.manifest = []
  opened : x.state = .opened → x.manifest.length < cap
  full : x.state = .full → x.manifest.length = cap

/-- No slot waits for an OPEN tote. -/
def Tote.Settled (x : Tote) : Prop := x.state = .opened → x.wait = []

theorem Part.totesSound_iff (p : Part) :
    p.TotesSound ↔ ∀ t, (p.tote t).Filled (p.capacity t) ∧ (p.tote t).Settled := by
  refine forall_congr' fun t => ⟨fun h => ?_, fun ⟨h, hw⟩ => ⟨h.bound, h.positions, ?_⟩⟩
  · obtain ⟨hbound, hpos, hstate⟩ := h
    refine ⟨⟨hbound, hpos, fun hs => ?_, fun hs => ?_, fun hs => ?_⟩, fun hs => ?_⟩ <;> rw [hs] at hstate
    · exact hstate
    · exact hstate.1
    · exact hstate
    · exact hstate.2
  · split
    next hs => exact h.absent hs
    next hs => exact ⟨h.opened hs, hw hs⟩
    next hs => exact h.full hs

namespace Tote.Filled

variable {cap : Nat} {x : Tote}

theorem congr (h : x.Filled cap) {y : Tote} (hm : y.manifest.map (·.position) = x.manifest.map (·.position))
    (hs : y.state = x.state) : y.Filled cap := by
  have hl : y.manifest.length = x.manifest.length := by simpa using congrArg List.length hm
  refine ⟨h.bound, ?_, fun ha => ?_, fun ho => ?_, fun hf => ?_⟩
  · rw [hm, hl]
    exact h.positions
  · rw [← List.length_eq_zero_iff, hl, h.absent (hs ▸ ha)]
    rfl
  · rw [hl]
    exact h.opened (hs ▸ ho)
  · rw [hl]
    exact h.full (hs ▸ hf)

/-- A tote swapped or withdrawn (R185, R186). -/
theorem emptied (h : x.Filled cap) {st : ToteState} (hcap : st = .opened → 1 ≤ cap) (hst : st ≠ .full) :
    Tote.Filled cap { x with manifest := [], state := st } :=
  ⟨h.bound, rfl, fun _ => rfl, hcap, fun hs => absurd hs hst⟩

theorem fill_le (h : x.Filled cap) : x.manifest.length ≤ cap := by
  cases hs : x.state with
  | absent => simp [h.absent hs]
  | opened => exact (h.opened hs).le
  | full => exact (h.full hs).le

/-- A tote in the state that its fill calls for under a new capacity (R176). -/
theorem recap (h : x.Filled cap) {cap' : Nat} {st : ToteState} (hbound : cap' ≤ 60)
    (ha : st = .absent → x.state = .absent) (ho : st = .opened → x.manifest.length < cap')
    (hf : st = .full → x.manifest.length = cap') :
    Tote.Filled cap' { x with state := st } :=
  ⟨hbound, h.positions, fun hs => h.absent (ha hs), ho, hf⟩

/-- The place reserved in an OPEN tote is the next one, and the last one makes it FULL (R180). -/
theorem reserved {p : Part} {t : ToteId} (h : (p.tote t).Filled (p.capacity t)) (hs : (p.tote t).state = .opened)
    (i : SlotId) (q : Slot) : (p.reserved t i q).Filled (p.capacity t) := by
  have hlt := h.opened hs
  have hstate : (p.reserved t i q).state =
      if (p.tote t).manifest.length + 1 = p.capacity t then .full else .opened := by rw [← hs]; rfl
  have hlength : (p.reserved t i q).manifest.length = (p.tote t).manifest.length + 1 := by simp [Part.reserved]
  refine ⟨h.bound, ?_, fun ha => ?_, fun ho => ?_, fun hf => ?_⟩
  · rw [hlength, List.range'_1_concat, ← h.positions, Nat.add_comm 1]
    simp [Part.reserved, Slot.manifestEntry]
  · rw [hstate] at ha
    split at ha <;> cases ha
  · rw [hstate] at ho
    split at ho
    · cases ho
    · omega
  · rw [hstate] at hf
    split at hf
    · rwa [hlength]
    · cases hf

end Tote.Filled

/-- One tote, and the others. -/
theorem Part.totesSound_of_tote {p : Part} (u : ToteId) (hf : (p.tote u).Filled (p.capacity u))
    (hw : (p.tote u).Settled) (h : ∀ k, k ≠ u → (p.tote k).Filled (p.capacity k) ∧ (p.tote k).Settled) :
    p.TotesSound := by
  refine p.totesSound_iff.mpr fun k => ?_
  by_cases hk : k = u
  · subst hk
    exact ⟨hf, hw⟩
  · exact h k hk

theorem Part.capacity_congr {p t : Part} (h : t.tables = p.tables) (u : ToteId) : t.capacity u = p.capacity u := by
  unfold Part.capacity
  rw [h]

namespace Part.TotesSound

variable {p t : Part}

theorem filled (h : p.TotesSound) (u : ToteId) : (p.tote u).Filled (p.capacity u) := (p.totesSound_iff.mp h u).1

theorem settled (h : p.TotesSound) (u : ToteId) : (p.tote u).Settled := (p.totesSound_iff.mp h u).2

/-- All but one tote are as they were, and that one is sound. -/
theorem update (h : p.TotesSound) (ht : t.tables = p.tables) (u : ToteId) (hu : ∀ k, k ≠ u → t.tote k = p.tote k)
    (hf : (t.tote u).Filled (p.capacity u)) (hw : (t.tote u).Settled) : t.TotesSound := by
  refine Part.totesSound_of_tote u ?_ hw fun k hk => ?_
  · rw [Part.capacity_congr ht]
    exact hf
  · rw [Part.capacity_congr ht, hu k hk]
    exact ⟨h.filled k, h.settled k⟩

theorem congr (h : p.TotesSound) (ht : t.tables = p.tables) (hto : t.totes = p.totes) : t.TotesSound := by
  have htote : ∀ k, t.tote k = p.tote k := fun k => by unfold Part.tote; rw [hto]
  refine h.update ht 0 (fun k _ => htote k) ?_ ?_
  · rw [htote]; exact h.filled 0
  · rw [htote]; exact h.settled 0

theorem raise (h : p.TotesSound) (b : NoticeBody) : (p.raise b).TotesSound := h.congr (by simp) (by simp)

theorem modTote (h : p.TotesSound) (u : ToteId) (f : Tote → Tote)
    (hf : (p.tote u).Filled (p.capacity u) → (f (p.tote u)).Filled (p.capacity u))
    (hw : (p.tote u).Settled → (f (p.tote u)).Settled) : (p.modTote u f).TotesSound := by
  refine h.update rfl u (fun k hk => Part.modTote_tote_ne (Ne.symm hk) f p) ?_ ?_
  · rw [Part.modTote_tote_self]; exact hf (h.filled u)
  · rw [Part.modTote_tote_self]; exact hw (h.settled u)

theorem reserve (h : p.TotesSound) {u : ToteId} (hs : (p.tote u).state = .opened) (i : SlotId) :
    (p.reserve u i).TotesSound := by
  have hself : (p.reserve u i).tote u = p.reserved u i (p.slot i) := by rw [Part.reserve_tote, if_pos rfl]
  refine h.update (Part.tables_of_quiet (Part.reserve_quiet u i p)) u (fun k hk => ?_) ?_ ?_
  · rw [Part.reserve_tote, if_neg hk]
  · rw [hself]
    exact (h.filled u).reserved hs i _
  · rw [hself]
    exact fun _ => h.settled u hs

/-- A place is asked for (R179): of a tote that is not OPEN, at the tail of its wait queue (R181). -/
theorem requestPlace (h : p.TotesSound) (u : ToteId) (i : SlotId) : (p.requestPlace u i).TotesSound := by
  have hwait : (p.tote u).state ≠ .opened → (p.modTote u fun q => { q with wait := q.wait ++ [i] }).TotesSound :=
    fun hs => h.modTote u _ (fun hf => hf.congr rfl rfl) fun _ ho => absurd ho hs
  unfold Part.requestPlace
  split
  next hs => exact h.reserve hs i
  next hs => exact hwait (by rw [hs]; exact nofun)
  next hs => exact hwait (by rw [hs]; exact nofun)

/-- A placement keeps the positions (R183). -/
theorem place (h : p.TotesSound) (i : SlotId) : (p.place i).TotesSound := by
  unfold Part.place
  split
  · refine h.modTote _ _ (fun hf => hf.congr ?_ rfl) id
    rw [List.map_map]
    refine List.map_congr_left fun e _ => ?_
    simp only [Function.comp_apply]
    split <;> rfl
  · exact h

/-- A stray slot leaves its wait queue (R184). -/
theorem stray (h : p.TotesSound) (i : SlotId) : (p.stray i).TotesSound := by
  unfold Part.stray
  split
  · exact h.raise _
  · refine Part.TotesSound.raise (h.modTote _ _ (fun hf => hf.congr rfl rfl) fun hw hs => ?_) _
    simp only [hw hs, List.filter_nil]

end Part.TotesSound

/-! ### Serving a wait queue (R182) -/

/-- Serving a wait queue leaves the other totes alone. -/
theorem Part.serveQueue_tote_ne {t u : ToteId} (hu : u ≠ t) (k : Nat) (p : Part) :
    (p.serveQueue t k).tote u = p.tote u := by
  induction k generalizing p with
  | zero => rfl
  | succ k ih =>
    unfold Part.serveQueue
    split
    · rw [ih, Part.reserve_tote, if_neg hu, Part.modTote_tote_ne (Ne.symm hu)]
    · rfl

/-- A tote that is filled is so while its queue is served, and is left FULL or with an empty queue. -/
theorem Part.serveQueue_filled {t : ToteId} (k : Nat) {p : Part} (h : (p.tote t).Filled (p.capacity t))
    (hk : (p.tote t).wait.length ≤ k) :
    ((p.serveQueue t k).tote t).Filled (p.capacity t) ∧ ((p.serveQueue t k).tote t).Settled := by
  induction k generalizing p with
  | zero => exact ⟨h, fun _ => List.length_eq_zero_iff.mp (Nat.le_zero.mp hk)⟩
  | succ k ih =>
    unfold Part.serveQueue
    split
    next i rest hs hw =>
      have htote : ((p.serveNext t i rest).tote t) = { p.reserved t i (p.slot i) with wait := rest } := by
        rw [Part.serveNext_tote, if_pos rfl]
      have hcap : (p.serveNext t i rest).capacity t = p.capacity t :=
        Part.capacity_congr (Part.tables_of_quiet Part.serveNext_moves.quiet) t
      have hnext := ih (p := p.serveNext t i rest) (by rw [htote, hcap]; exact (h.reserved hs i _).congr rfl rfl)
        (by rw [htote]; rw [hw, List.length_cons] at hk; exact Nat.le_of_succ_le_succ hk)
      rwa [hcap] at hnext
    next hne =>
      refine ⟨h, fun hs => ?_⟩
      cases hw : (p.tote t).wait with
      | nil => rfl
      | cons i rest => exact absurd hw (hne i rest hs)

/-- The tote served may have slots waiting for it in OPEN. -/
theorem Part.serve_totesSound {t : ToteId} {p : Part} (hf : (p.tote t).Filled (p.capacity t))
    (h : ∀ u, u ≠ t → (p.tote u).Filled (p.capacity u) ∧ (p.tote u).Settled) : (p.serve t).TotesSound := by
  have hcap := Part.capacity_congr (Part.tables_of_quiet (Part.serve_quiet t p))
  have hserved := Part.serveQueue_filled _ hf le_rfl
  refine Part.totesSound_of_tote t ?_ hserved.2 fun u hu => ?_
  · rw [hcap]
    exact hserved.1
  · rw [hcap]
    unfold Part.serve
    rw [Part.serveQueue_tote_ne hu]
    exact h u hu

/-- A swapped tote is OPEN and empty before its queue is served, and its capacity is at least 1 (R175, R185). -/
theorem Part.TotesSound.swap {p : Part} (h : p.TotesSound) {t : ToteId} (hcap : 1 ≤ p.capacity t) :
    (p.swap t).TotesSound := by
  refine Part.serve_totesSound ?_ fun u hu => ?_
  · rw [Part.modTote_tote_self]
    exact (h.filled t).emptied (fun _ => hcap) nofun
  · rw [Part.modTote_tote_ne (Ne.symm hu)]
    exact ⟨h.filled u, h.settled u⟩

theorem Part.TotesSound.withdraw {p : Part} (h : p.TotesSound) (t : ToteId) : (p.withdraw t).TotesSound :=
  h.modTote t _ (fun hf => hf.emptied nofun nofun) fun _ => nofun

theorem le_clampCapacity (fill cap : Nat) : fill ≤ clampCapacity fill cap := le_max_left _ _

theorem clampCapacity_le {fill : Nat} (h : fill ≤ 60) (cap : Nat) : clampCapacity fill cap ≤ 60 :=
  max_le h (min_le_left _ _)

/-- A new capacity acts on its tote (R176): not below the fill and at most 60, it leaves the tote FULL at the fill, and
OPEN, its queue served, above it. -/
theorem Part.capacityChanged_totesSound {p : Part} {t : ToteId} {old cap : Nat} (hcap : p.capacity t = cap)
    (hbound : cap ≤ 60) (hf : (p.tote t).Filled old) (hw : (p.tote t).Settled) (hfill : (p.tote t).fill ≤ cap)
    (hothers : ∀ u, u ≠ t → (p.tote u).Filled (p.capacity u) ∧ (p.tote u).Settled) :
    (p.capacityChanged t cap).TotesSound := by
  have hstay : ((p.tote t).state = .opened → (p.tote t).manifest.length < cap) →
      ((p.tote t).state = .full → (p.tote t).manifest.length = cap) → p.TotesSound := fun ho hfull =>
    Part.totesSound_of_tote t (hcap ▸ hf.recap (st := (p.tote t).state) hbound id ho hfull) hw hothers
  have hmod : ∀ f u, u ≠ t → ((p.modTote t f).tote u).Filled ((p.modTote t f).capacity u) ∧
      ((p.modTote t f).tote u).Settled := fun f u hu => by
    rw [Part.modTote_tote_ne (Ne.symm hu)]
    exact hothers u hu
  unfold Part.capacityChanged
  simp only
  split
  next hs => exact hstay (by rw [hs]; exact nofun) (by rw [hs]; exact nofun)
  next hs =>
    split
    next he =>
      refine Part.TotesSound.raise (Part.totesSound_of_tote t ?_ ?_ (hmod _)) _
      · rw [Part.modTote_tote_self]
        exact hcap ▸ hf.recap hbound nofun nofun fun _ => he.symm
      · rw [Part.modTote_tote_self]
        exact nofun
    next hne =>
      refine hstay (fun _ => ?_) (by rw [hs]; exact nofun)
      exact lt_of_le_of_ne hfill (Ne.symm hne)
  next hs =>
    split
    next hlt =>
      refine Part.serve_totesSound ?_ (hmod _)
      rw [Part.modTote_tote_self]
      exact hcap ▸ hf.recap hbound nofun (fun _ => hlt) nofun
    next hge =>
      refine hstay (by rw [hs]; exact nofun) fun _ => ?_
      exact le_antisymm hfill (not_lt.mp hge)

theorem Part.TotesSound.storeCapacity {p : Part} (h : p.TotesSound) (t : ToteId) {cap : Nat}
    (hfill : (p.tote t).fill ≤ cap) (hcap : cap ≤ 60) : (p.storeCapacity t cap).TotesSound := by
  have hset : ∀ u, (p.modTables fun x => { x with capacities := x.capacities.set t cap }).capacity u =
      if u = t then cap else p.capacity u := fun u => by
    simp [Part.capacity, Vector.getElem_set, Fin.ext_iff, eq_comm]
  refine Part.capacityChanged_totesSound (by rw [hset, if_pos rfl]) hcap (h.filled t) (h.settled t) hfill fun u hu => ?_
  rw [hset, if_neg hu]
  exact ⟨h.filled u, h.settled u⟩

end Sys2Proof.Machine

namespace Sys2Proof.Machine

/-! ## What touches neither the queues nor the totes -/

@[simp] theorem Part.stepEnded_ledger (i : SlotId) (e : Ending) (p : Part) : (p.stepEnded i e).ledger = p.ledger :=
  Part.raise_ledger _ p

@[simp] theorem Part.stepEnter_ledger (i : SlotId) (k : Nat) (p : Part) : (p.stepEnter i k).ledger = p.ledger := by
  simp [Part.stepEnter]

@[simp] theorem Part.chain_ledger (i : SlotId) (k : Nat) (p : Part) : (p.chain i k).1.ledger = p.ledger := by
  induction k generalizing p with
  | zero => rfl
  | succ k ih =>
    unfold Part.chain
    split
    · split
      · rfl
      · simp [ih]
    · rfl

@[simp] theorem Part.enterSteps_ledger (i : SlotId) (p : Part) : (p.enterSteps i).1.ledger = p.ledger := by
  simp [Part.enterSteps]

@[simp] theorem Part.enterRetest_ledger (i : SlotId) (r : Fin 16) (p : Part) :
    (p.enterRetest i r).1.ledger = p.ledger := by
  simp [Part.enterRetest]

@[simp] theorem Part.enterDraining_ledger (i : SlotId) (e : Ending) (p : Part) :
    (p.enterDraining i e).ledger = p.ledger := by
  simp [Part.enterDraining]

@[simp] theorem Part.gradeSlot_ledger (i : SlotId) (p : Part) : (p.gradeSlot i).ledger = p.ledger := by
  simp [Part.gradeSlot]

@[simp] theorem Part.drawn_ledger (f : Nat → NoticeBody) (p : Part) : (p.drawn f).ledger = p.ledger :=
  Part.raise_ledger _ p

@[simp] theorem Part.modZone_ledger (z : ZoneId) (f : Zone → Zone) (p : Part) : (p.modZone z f).ledger = p.ledger := rfl

@[simp] theorem Part.latchAlarm_ledger (z : ZoneId) (p : Part) : (p.latchAlarm z).ledger = p.ledger :=
  Part.each_keeps (v := Part.ledger) (f := fun i q => q.modSlot i _) (fun _ _ => rfl) _ p

@[simp] theorem Part.judgeFault_ledger (z : ZoneId) (p : Part) : (p.judgeFault z).ledger = p.ledger := by
  unfold Part.judgeFault
  simp only
  split
  · simp
  · split <;> simp

@[simp] theorem Part.judgeAlarm_ledger (z : ZoneId) (x : Int) (p : Part) : (p.judgeAlarm z x).ledger = p.ledger := by
  unfold Part.judgeAlarm
  simp only
  split
  · simp
  · split <;> simp

@[simp] theorem Part.regulateZone_ledger (z : ZoneId) (p : Part) : (p.regulateZone z).ledger = p.ledger := by
  unfold Part.regulateZone
  split <;> simp

@[simp] theorem Part.sampleZone_ledger (z : ZoneId) (a : SensorAnswer) (p : Part) :
    (p.sampleZone z a).ledger = p.ledger := by
  unfold Part.sampleZone
  cases readSample a <;> simp

@[simp] theorem Part.seat_ledger (i : SlotId) (p : Part) : (p.seat i).ledger = p.ledger := by simp [Part.seat]

@[simp] theorem Part.seatQuietly_ledger (i : SlotId) (p : Part) : (p.seatQuietly i).ledger = p.ledger := by
  simp [Part.seatQuietly]

@[simp] theorem Part.resetLaneIfPresent_ledger (i : SlotId) (p : Part) :
    (p.resetLaneIfPresent i).ledger = p.ledger := by
  unfold Part.resetLaneIfPresent
  split
  · exact Part.sendReset_ledger i p
  · exact Part.cutCommand_ledger i p

theorem Part.enableChange_ledger (old : BitVec 24) (i : SlotId) (p : Part) :
    (p.enableChange old i).ledger = p.ledger := by
  unfold Part.enableChange
  split
  · exact Part.enterEmpty_ledger i p
  · split
    · exact Part.seat_ledger i p
    · rfl

theorem Part.hand_totes (i : SlotId) (x : Handing) (p : Part) : (p.hand i x).1.totes = p.totes := by
  unfold Part.hand
  simp only
  split
  · split <;> rfl
  · rfl

theorem Part.completeOpen_totes (i : SlotId) (st : Status) (p : Part) : (p.completeOpen i st).totes = p.totes :=
  Part.completeOpen_keeps (v := Part.totes) (fun _ _ => rfl) (fun _ _ _ => rfl) i st p

/-! ## What every event does to the Table Store and the totes -/

/-- From one part to another the stored ranges are kept and, with them, the totes stay sound. -/
structure Part.KeepsStores (p t : Part) : Prop where
  tables : p.tables.InRange → t.tables.InRange
  totes : p.tables.InRange → p.TotesSound → t.TotesSound

namespace Part.KeepsStores

variable {i : SlotId} {p q t : Part}

theorem refl (p : Part) : p.KeepsStores p := ⟨id, fun _ => id⟩

theorem trans (h : p.KeepsStores q) (h' : q.KeepsStores t) : p.KeepsStores t :=
  ⟨fun ht => h'.tables (h.tables ht), fun ht hs => h'.totes (h.tables ht) (h.totes ht hs)⟩

/-- An event that stores no entry, and keeps the totes sound. -/
theorem sorts (h : p.KeepsStores q) (ht : t.tables = q.tables) (hs : q.TotesSound → t.TotesSound) : p.KeepsStores t :=
  h.trans ⟨fun hr => by rwa [ht], fun _ => hs⟩

/-- An event that touches neither the Table Store nor the totes. -/
theorem same (h : p.KeepsStores q) (ht : t.tables = q.tables) (hto : t.totes = q.totes) : p.KeepsStores t :=
  h.sorts ht fun hs => hs.congr ht hto

theorem quietly (h : p.KeepsStores q) (hq : t.quiet = q.quiet) (hl : t.ledger = q.ledger) : p.KeepsStores t :=
  h.same (Part.tables_of_quiet hq) (Part.totes_of_ledger hl)

theorem modSlot (h : p.KeepsStores q) (k : SlotId) (f : Slot → Slot) : p.KeepsStores (q.modSlot k f) := h.same rfl rfl
theorem modTrunk (h : p.KeepsStores q) (f : TrunkPort → TrunkPort) : p.KeepsStores (q.modTrunk f) := h.same rfl rfl
theorem raise (h : p.KeepsStores q) (b : NoticeBody) : p.KeepsStores (q.raise b) := h.quietly (by simp) (by simp)
theorem changeState (h : p.KeepsStores q) (k : SlotId) (st : SlotState) : p.KeepsStores (q.changeState k st) :=
  h.quietly (by simp) (by simp)
theorem grants (h : p.KeepsStores q) : p.KeepsStores q.grants :=
  h.same (Part.tables_of_quiet (by simp)) q.grants_totes

theorem when (h : p.KeepsStores q) (c : Bool) {f : Part → Part} (hf : p.KeepsStores (f q)) :
    p.KeepsStores (q.when c f) := by
  cases c
  · exact h
  · exact hf

theorem each {α : Type} (h : p.KeepsStores q) (l : List α) {f : α → Part → Part}
    (hf : ∀ a {r : Part}, p.KeepsStores r → p.KeepsStores (f a r)) : p.KeepsStores (q.each l f) :=
  Part.each_inv (P := p.KeepsStores) (fun a _ hr => hf a hr) l q h

theorem eachFree (h : p.KeepsStores q) (l : List SlotId) {f : SlotId → Part → Part}
    (hf : ∀ i {r : Part}, p.KeepsStores r → p.KeepsStores (f i r)) : p.KeepsStores (q.eachFree l f) :=
  Part.eachFree_inv (P := p.KeepsStores) (fun a _ hr => hf a hr) (fun _ _ hr => hr.same rfl rfl) l q h

/-! ### The lane and the lines -/

theorem dropSend (h : p.KeepsStores q) : p.KeepsStores ((q.cutCommand i).cutReset i) :=
  h.quietly (by simp) (Part.dropSend_ledger i q)

theorem sendReset (h : p.KeepsStores q) : p.KeepsStores (q.sendReset i) :=
  h.quietly (by simp) (Part.sendReset_ledger i q)

theorem completeOpen (h : p.KeepsStores q) (st : Status) : p.KeepsStores (q.completeOpen i st) :=
  h.same (Part.tables_of_quiet (by simp)) (Part.completeOpen_totes i st q)

theorem commandSent (h : p.KeepsStores q) : p.KeepsStores (q.commandSent i) := by
  refine h.same (Part.tables_of_quiet (by simp)) ?_
  unfold Part.commandSent
  split <;> rfl

theorem resetSent (h : p.KeepsStores q) : p.KeepsStores (q.resetSent i) := by
  refine h.same (Part.tables_of_quiet (by simp)) ?_
  unfold Part.resetSent
  split <;> rfl

theorem serviceSilence (h : p.KeepsStores q) : p.KeepsStores (q.serviceSilence i) := by
  unfold Part.serviceSilence
  split
  · exact h.modSlot _ _
  · exact h

theorem slotCommand (h : p.KeepsStores q) (tag code : Byte) (body : List Byte) :
    p.KeepsStores (q.slotCommand i tag code body) := by
  unfold Part.slotCommand
  split
  · exact (h.modTrunk _).modSlot _ _
  · exact (h.modSlot _ _).serviceSilence.modSlot _ _

theorem laneReady (h : p.KeepsStores q) : p.KeepsStores (q.laneReady i) := by
  unfold Part.laneReady Part.laneNotice
  split
  · exact (h.modSlot _ _).raise _
  · exact h

theorem arrival (h : p.KeepsStores q) : p.KeepsStores (q.arrival i) := by
  unfold Part.arrival
  split
  · exact (h.modSlot _ _).when _ ((h.modSlot _ _).quietly (Part.seat_quiet i _) (Part.seat_ledger i _))
  · exact h

theorem ejectPress (h : p.KeepsStores q) : p.KeepsStores (q.ejectPress i) := by
  unfold Part.ejectPress
  split
  · exact h.modSlot _ _
  · exact h

theorem ejectRelease (h : p.KeepsStores q) : p.KeepsStores (q.ejectRelease i) := by
  unfold Part.ejectRelease
  split
  · exact h.modSlot _ _
  · exact h

theorem silenceFirst (h : p.KeepsStores q) : p.KeepsStores (q.silenceFirst i) := by
  unfold Part.silenceFirst Part.silenceWarning
  split
  · exact (h.modSlot _ _).raise _
  · exact h

/-! ### The way out: places, spin-down and draining -/

/-- TOTE_WAIT entry asks the Sort Unit for a place (R37). -/
theorem enterToteWait (h : p.KeepsStores q) : p.KeepsStores (q.enterToteWait i) :=
  ((h.modSlot i _).changeState i _).sorts (Part.tables_of_quiet (Part.requestPlace_quiet _ i _)) fun hs =>
    hs.requestPlace _ i

theorem spindownOver (h : p.KeepsStores q) : p.KeepsStores (q.spindownOver i) := by
  unfold Part.spindownOver
  simp only
  split
  · exact (((h.modSlot i _).changeState i _).same (t := Part.joinQueue i _) rfl rfl).grants
  · exact (h.modSlot i _).enterToteWait

theorem enterSpindown (h : p.KeepsStores q) : p.KeepsStores (q.enterSpindown i) := by
  unfold Part.enterSpindown
  simp only
  split
  · exact ((h.modSlot i _).changeState i _).spindownOver
  · exact (h.modSlot i _).changeState i _

theorem enterDraining (h : p.KeepsStores q) (e : Ending) : p.KeepsStores (q.enterDraining i e) :=
  h.quietly (by simp) (by simp)

theorem leaveDraining (h : p.KeepsStores q) : p.KeepsStores ((q.gradeSlot i).leaveDraining i) :=
  ((h.quietly (t := q.gradeSlot i) (by simp) (by simp)).modSlot i _).enterSpindown

theorem endDraining (h : p.KeepsStores q) (k : Nat) : p.KeepsStores (q.endDraining i k) := by
  induction k generalizing q with
  | zero => unfold Part.endDraining; exact h.leaveDraining
  | succ k ih =>
    unfold Part.endDraining
    simp only
    split
    · exact h.leaveDraining
    next r _ =>
      have hr : p.KeepsStores ((q.gradeSlot i).enterRetest i r).1 := h.quietly (by simp) (by simp)
      split
      · exact ih (hr.enterDraining _)
      · exact hr

theorem drainCheck (h : p.KeepsStores q) : p.KeepsStores (q.drainCheck i) := by
  unfold Part.drainCheck
  split
  · exact h.endDraining _
  · exact h

theorem afterChain {c : Part × Bool} (h : p.KeepsStores c.1) : p.KeepsStores (Part.afterChain i c) := by
  unfold Part.afterChain
  split
  · exact (h.enterDraining _).drainCheck
  · exact h

theorem settle (h : p.KeepsStores q) : p.KeepsStores (q.settle i) := afterChain (h.quietly (by simp) (by simp))

theorem endStep (h : p.KeepsStores q) (e : Ending) : p.KeepsStores (q.endStep i e) := by
  unfold Part.endStep
  split
  · refine Part.KeepsStores.settle ?_
    exact h.quietly (by simp) (by simp)
  · exact (h.enterDraining e).drainCheck

theorem moveCondemned (h : p.KeepsStores q) : p.KeepsStores (q.moveCondemned i) := by
  unfold Part.moveCondemned
  split
  · split
    · refine Part.KeepsStores.settle (changeState ?_ i _)
      exact h.quietly (by simp) (by simp)
    · exact (h.enterDraining _).drainCheck
  · exact h

theorem condemn (h : p.KeepsStores q) : p.KeepsStores (q.condemn i) :=
  ((h.modSlot i _).raise _).moveCondemned

theorem noShow (h : p.KeepsStores q) : p.KeepsStores (q.noShow i) :=
  (h.quietly (Part.noShowStart_quiet i q) (Part.noShowStart_ledger i q)).enterSpindown

theorem endEarly (h : p.KeepsStores q) (c : Cause) : p.KeepsStores (q.endEarly i c) := by
  rw [Part.endEarly_eq]
  have hs := (h.same (Part.endTest_tables i c q) (Part.endTest_totes i c q)).enterSpindown (i := i)
  exact hs.when _ hs.grants

theorem endIn (h : p.KeepsStores q) (acts : SlotState → Bool) (c : Cause) : p.KeepsStores (q.endIn acts i c) := by
  unfold Part.endIn
  split
  · exact h.endEarly c
  · exact h

theorem abort (h : p.KeepsStores q) (c : Cause) : p.KeepsStores (q.abort i c) := by
  unfold Part.abort
  split
  · exact ((h.same (t := q.leaveQueue i) rfl rfl).modSlot i _).enterToteWait
  · exact h.endIn _ c

/-! ### Events at a slot -/

theorem slotSecond (h : p.KeepsStores q) : p.KeepsStores (q.slotSecond i) := by
  have hforce : ∀ (st : StepEntry) {q : Part}, p.KeepsStores q → p.KeepsStores (q.forceStep i st) := fun st q h =>
    ((h.when _ (h.modSlot i _)).raise _).endStep _
  have hadvance : ∀ (st : StepEntry) {q : Part}, p.KeepsStores q → p.KeepsStores (q.advanceStep i st) :=
    fun st q h => by
      unfold Part.advanceStep
      split
      · exact h
      · exact h.endStep _
  unfold Part.slotSecond
  split
  · exact h
  · have h1 := h.modSlot i Slot.countTest
    refine h1.when _ ?_
    unfold Part.stepTick
    split
    · exact h1
    · split
      · exact hforce _ h1
      · exact hadvance _ (h1.modSlot i _)

theorem stepDoneEffect (h : p.KeepsStores q) : p.KeepsStores (q.stepDoneEffect i) := by
  have hs := h.serviceSilence (i := i)
  unfold Part.stepDoneEffect
  simp only
  split
  · exact hs
  · split
    · exact hs
    · exact hs.endStep _
    · split
      · exact (hs.modSlot i _).endStep _
      · exact hs.modSlot i _

/-- What a presence loss does for the state that the slot leaves: a placement, or a stray removal (R183, R184). -/
theorem lossEffects (h : p.KeepsStores q) : p.KeepsStores (q.lossEffects i) := by
  by_cases hw : (q.slot i).state = .toteWait
  · unfold Part.lossEffects
    simp only [hw]
    exact h.sorts (Part.tables_of_quiet (Part.stray_quiet i q)) (·.stray i)
  · by_cases hu : (q.slot i).state = .unloadReady
    · unfold Part.lossEffects
      simp only [hu]
      exact h.sorts (Part.tables_of_quiet (Part.place_quiet i q)) (·.place i)
    · exact h.same (Part.tables_of_quiet (Part.lossEffects_quiet i q)) (Part.lossEffects_totes hw hu)

theorem loss (h : p.KeepsStores q) : p.KeepsStores (q.loss i) := by
  have h1 := h.modSlot i fun s => { s with presence := s.presence.settle }
  unfold Part.loss
  split
  · simp only
    split
    · exact h1.dropSend
    · exact h1.lossEffects.same (Part.tables_of_quiet (by simp)) (Part.loseDrive_totes i _)
  · exact h

theorem enterIdent (h : p.KeepsStores q) : p.KeepsStores (q.enterIdent i) := by
  unfold Part.enterIdent
  simp only
  split
  · exact (h.changeState i _).noShow
  · exact (h.changeState i _).modSlot i _

theorem spinupOver (h : p.KeepsStores q) : p.KeepsStores (q.spinupOver i) := by
  unfold Part.spinupOver
  split
  · have h1 : p.KeepsStores (q.leaveSpinup .spinup) :=
      h.same (Part.tables_of_quiet (by simp)) (Part.leaveSpinup_totes _ q)
    exact (h1.modSlot i _).enterIdent.grants
  · exact h

theorem noShowOver (h : p.KeepsStores q) : p.KeepsStores (q.noShowOver i) := by
  unfold Part.noShowOver
  split
  · exact h.noShow
  · exact h

theorem spindownExpiry (h : p.KeepsStores q) : p.KeepsStores (q.spindownExpiry i) := by
  unfold Part.spindownExpiry
  split
  · exact h.spindownOver
  · exact h

theorem currentFault (h : p.KeepsStores q) : p.KeepsStores (q.currentFault i) := by
  unfold Part.currentFault
  split
  · exact h.endIn _ _
  · exact h

theorem silenceSecond (h : p.KeepsStores q) : p.KeepsStores (q.silenceSecond i) := by
  unfold Part.silenceSecond
  split
  · exact (h.raise _).endEarly _
  · exact h

theorem holdOver (h : p.KeepsStores q) : p.KeepsStores (q.holdOver i) := by
  unfold Part.holdOver
  split
  · exact (h.modSlot i _).abort _
  · exact h

theorem probeAnswer (h : p.KeepsStores q) (m : CompletionMsg) : p.KeepsStores (q.probeAnswer i m) := by
  unfold Part.probeAnswer
  split
  · exact h.noShow
  · split
    · refine Part.KeepsStores.afterChain ?_
      exact ((h.modSlot i _).raise _).quietly (Part.enterSteps_quiet i _) (Part.enterSteps_ledger i _)
    · exact h.noShow

theorem hand (h : p.KeepsStores q) (x : Handing) : p.KeepsStores (q.hand i x).1 :=
  h.same (Part.tables_of_quiet (by simp)) (Part.hand_totes i x q)

theorem matched (h : p.KeepsStores q) (e : Entry) (t0 : Time) (m : CompletionMsg) :
    p.KeepsStores (q.matched i e t0 m) := by
  have hdone := (h.hand (i := i) (e.handing (.drive m.status) m.delta m.coverage (elapsedMs t0 q.now))).modSlot i
    fun s => { s with outstanding := setEntry e.tag Entry.finish s.outstanding }
  have h1 := hdone.modTrunk fun t =>
    { t with completions := t.completions ++ [e.drivenCompletion i m (elapsedMs t0 q.now)] }
  exact h1.when _ h1.condemn

theorem laneCompletion (h : p.KeepsStores q) (u : List Byte) : p.KeepsStores (q.laneCompletion i u) := by
  have horphan : p.KeepsStores (q.orphan i) := h.modSlot i _
  unfold Part.laneCompletion Part.takeCompletion
  split
  · split
    · exact horphan
    · split
      · exact horphan
      · exact horphan
      · split
        · split
          · exact h.probeAnswer _
          · exact horphan
        · exact h.matched _ _ _
  · exact h
  · exact h

theorem timedOut (h : p.KeepsStores q) (e : Entry) : p.KeepsStores (q.timedOut i e) := by
  unfold Part.timedOut Part.laneNotice
  simp only
  generalize hq1 : Part.when _ _ _ = q1
  have h1 : p.KeepsStores q1 := by
    subst hq1
    have hdone := h.modSlot i fun s => { s with outstanding := setEntry e.tag Entry.finish s.outstanding }
    have h2 := (hdone.modTrunk fun t =>
      { t with completions := t.completions ++ [e.madeCompletion i .timeout] }).hand (i := i) (e.handing .timeout 0 0 0)
    exact h2.when _ h2.condemn
  split
  · exact (h1.raise _).endEarly _
  · exact (((h1.completeOpen _).sendReset.modSlot i _).raise _)

theorem commandTimeout (h : p.KeepsStores q) (tag : Byte) : p.KeepsStores (q.commandTimeout i tag) := by
  unfold Part.commandTimeout
  split
  · split
    · exact h
    · exact h.timedOut _
  · exact h

theorem recoveryOver (h : p.KeepsStores q) : p.KeepsStores (q.recoveryOver i) := by
  unfold Part.recoveryOver
  split
  · exact ((h.modSlot i _).raise _).endIn _ _
  · exact h

theorem startSlot (h : p.KeepsStores q) (r : Fin 16) : p.KeepsStores (q.startSlot i r) :=
  (((h.modSlot i _).changeState i _).same (t := Part.joinQueue i _) rfl rfl).grants

/-! ### Zones and the door -/

theorem tripZone (h : p.KeepsStores q) (z : ZoneId) : p.KeepsStores (q.tripZone z) :=
  h.eachFree _ fun _ _ hr => hr.endIn _ _

theorem sampleEnd (h : p.KeepsStores q) (z : ZoneId) (a : SensorAnswer) : p.KeepsStores (q.sampleEnd z a) := by
  have h1 : p.KeepsStores (({ q with busRead := nextRead z } : Part).sampleZone z a) :=
    (h.same (t := { q with busRead := nextRead z }) rfl rfl).quietly (by simp) (by simp)
  exact h1.when _ (h1.tripZone z)

theorem sensorSample (h : p.KeepsStores q) (a : SensorAnswer) : p.KeepsStores (q.sensorSample a) := by
  unfold Part.sensorSample
  split
  · exact h
  · exact h.sampleEnd _ a

theorem sensorTimeout (h : p.KeepsStores q) : p.KeepsStores q.sensorTimeout := by
  unfold Part.sensorTimeout
  split
  · exact h
  · split
    · exact h.sampleEnd _ _
    · exact h

theorem alarmOver (h : p.KeepsStores q) (z : ZoneId) : p.KeepsStores (q.alarmOver z) := by
  unfold Part.alarmOver
  split
  · refine Part.KeepsStores.tripZone ?_ z
    exact h.quietly (by simp) (by simp)
  · exact h

theorem doorEvent (h : p.KeepsStores q) : p.KeepsStores q.doorEvent := by
  unfold Part.doorEvent
  split
  · have h1 := ((h.same (t := { q with door := q.door.settle }) rfl rfl).raise (.doorChanged q.door.raw)).each allZones
      (f := Part.judgeZone) fun z _ hr => hr.quietly (by simp) (by simp)
    exact h1.when _ h1.grants
  · exact h

theorem tick (h : p.KeepsStores q) : p.KeepsStores q.tick :=
  h.same (by rw [Part.tick_frame]) (by rw [Part.tick_frame])

end Part.KeepsStores

/-! ### Storing (R8) -/

theorem Part.storeRack_totes (e : RackSettings) (p : Part) : (p.storeRack e).totes = p.totes := by
  unfold Part.storeRack
  refine (Part.when_keeps _ _ (Part.grants_totes _)).trans ?_
  exact Part.totes_of_ledger (Part.eachFree_keeps (Part.enableChange_ledger _) (fun _ _ => rfl) allSlots _)

theorem Part.TotesSound.store {p : Part} (h : p.TotesSound) (t : Table) (k : Nat) (c : List Byte) :
    (p.store t k c).1.TotesSound := by
  cases t with
  | toteSettings =>
    have hf := h.filled (finN 7 k)
    exact h.storeCapacity _ (le_clampCapacity _ _) (clampCapacity_le (hf.fill_le.trans hf.bound) _)
  | rackSettings =>
    have hrack : (p.modTables fun x => { x with rack := (rawRack c).clamp }).TotesSound := h
    exact hrack.congr (Part.storeRack_tables _ p) (Part.storeRack_totes _ p)
  | _ => exact h

namespace Part.KeepsStores

variable {i : SlotId} {p q t : Part}

theorem load (h : p.KeepsStores q) (body : List Byte) : p.KeepsStores (q.load body).part := by
  obtain he | ⟨t, k, c, hk, hb, hd, he⟩ := q.load_cases body
  · rwa [he]
  · rw [he]
    exact h.trans ⟨fun hr => Part.store_inRange hr hk hb hd, fun _ hs => hs.store t k c⟩

/-! ### Loading -/

theorem applyTrunkType (h : p.KeepsStores q) (img : List Byte) : p.KeepsStores (q.applyTrunkType (field img 12 2)) := by
  unfold Part.applyTrunkType
  split
  · exact h
  · split
    · exact h.same rfl rfl
    next hv =>
      refine h.trans ⟨fun hr => ?_, fun _ hs => hs⟩
      obtain ⟨hclasses, hrecipes, hsteps, hlimits, hcaps, hlevels, hrack, hfilters⟩ := hr
      obtain ⟨-, hrest⟩ := hrack
      exact ⟨hclasses, hrecipes, hsteps, hlimits, hcaps, hlevels, ⟨trunkType_inRange (not_lt.mp hv), hrest⟩, hfilters⟩

theorem applyRecord (h : p.KeepsStores q) (body : List Byte) : p.KeepsStores (q.applyRecord body) := by
  unfold Part.applyRecord
  simp only
  split
  · exact (h.load body).same rfl rfl
  · exact (h.load body).same rfl rfl

theorem seatIfSeatable (h : p.KeepsStores q) : p.KeepsStores (q.seatIfSeatable i) :=
  h.when _ (h.quietly (Part.seatQuietly_quiet i q) (Part.seatQuietly_ledger i q))

theorem loadEnd (h : p.KeepsStores q) (acked : List Byte) : p.KeepsStores (q.loadEnd acked) := by
  have himage : p.KeepsStores (q.applyImage acked) := by
    have h1 := (h.applyTrunkType acked).each ((imageRecords acked (field acked 2 2)).getD []) (f := Part.applyRecord)
      fun body _ hr => hr.applyRecord body
    unfold Part.applyImage Part.applyStation
    split
    · exact h1
    · exact h1.modTrunk _
  unfold Part.loadEnd Part.endLoading
  split
  · refine Part.KeepsStores.grants (raise (eachFree ?_ _ fun _ _ hr => hr.seatIfSeatable) _)
    exact (h.when _ himage).same rfl rfl
  · exact h

theorem transferTimeout (h : p.KeepsStores q) (x : EndedTransfer) : p.KeepsStores (q.transferTimeout x) := by
  unfold Part.transferTimeout
  split
  · exact h.same rfl rfl
  · exact h

end Part.KeepsStores
end Sys2Proof.Machine

namespace Sys2Proof.Machine

/-- Every tote ABSENT and empty, as power-on and the rack reset leave them (R177, R190). -/
theorem Part.totesSound_of_powerUp {p : Part} (hto : p.totes = Vector.replicate 8 .powerUp)
    (hcap : ∀ u, p.capacity u ≤ 60) : p.TotesSound := by
  refine p.totesSound_iff.mpr fun u => ?_
  have htote : p.tote u = .powerUp := by
    unfold Part.tote
    rw [hto, Fin.getElem_fin, Vector.getElem_replicate]
  rw [htote]
  exact ⟨⟨hcap u, rfl, fun _ => rfl, nofun, nofun⟩, nofun⟩

namespace Part.KeepsStores

variable {i : SlotId} {p q t : Part}

theorem powerOn (strap : BitVec 6) (presence eject : BitVec 24) (doorOpen : Bool) (p : Part) :
    p.KeepsStores (p.powerOn strap presence eject doorOpen) := by
  refine ⟨fun _ => TableStore.powerUp_inRange, fun _ _ => Part.totesSound_of_powerUp rfl ?_⟩
  exact forall_getElem_replicate (P := (· ≤ 60)) (by decide)

/-! ### The trunk -/

theorem receive (h : p.KeepsStores q) (good : Bool) (dest source : Mac) (ty : BitVec 16) (data : List Byte) :
    p.KeepsStores (q.receive good dest source ty data) := by
  unfold Part.receive Part.message
  split
  · exact h.modTrunk _
  · split
    · split
      · exact h.modTrunk _
      · exact h.slotCommand _ _ _
      · exact h.modTrunk _
    · exact h

theorem choose (h : p.KeepsStores q) : p.KeepsStores q.choose := by
  unfold Part.choose Part.chooseWaiting
  split
  · split
    · exact h.modTrunk _
    · split
      · exact h
      · exact h.modTrunk _
      · exact h.modTrunk _
      · split
        · exact h.modTrunk _
        · exact h.modTrunk _
  · exact h

theorem completionSent (h : p.KeepsStores q) : p.KeepsStores q.completionSent := by
  unfold Part.completionSent
  split
  · exact h
  · exact (h.modTrunk _).when _ ((h.modTrunk _).modSlot _ _).drainCheck

theorem reportLost (h : p.KeepsStores q) : p.KeepsStores q.reportLost := by
  unfold Part.reportLost
  split
  · exact h
  · exact (h.when _ (h.modTrunk _)).modTrunk _

theorem frameSent (h : p.KeepsStores q) : p.KeepsStores q.frameSent := by
  unfold Part.frameSent Part.itemSent
  split
  · exact h
  · split
    · exact h.same rfl rfl
    · exact (h.modTrunk _).completionSent
    · exact ((h.modTrunk _).modTrunk _).reportLost

/-! ### Requests -/

/-- The Management Unit's own part of a request stores nothing (R5, R6). -/
theorem take (h : p.KeepsStores q) (mine : Request → Bool) {serve : Request → Part → Answer}
    (hs : ∀ r {t : Part}, p.KeepsStores t → p.KeepsStores (serve r t).part) : p.KeepsStores (q.take mine serve) := by
  unfold Part.take
  split
  next r rest _ _ =>
    split
    · have htaken : p.KeepsStores
          { q.modTrunk fun t => { t with requests := rest, server := r.source } with serving := some r } :=
        h.same rfl rfl
      refine Part.KeepsStores.modTrunk ?_ _
      split
      · exact htaken
      · exact hs r htaken
    · exact h
  · exact h

theorem serveReadEntry (h : p.KeepsStores q) (r : Request) : p.KeepsStores (serveReadEntry r q).part := by
  unfold Machine.serveReadEntry
  split
  · exact h
  · split <;> exact h

theorem serveReadZone (h : p.KeepsStores q) (r : Request) : p.KeepsStores (serveReadZone r q).part := by
  unfold Machine.serveReadZone
  split <;> exact h

theorem serveReadCounters (h : p.KeepsStores q) (r : Request) : p.KeepsStores (serveReadCounters r q).part := by
  unfold Machine.serveReadCounters
  split
  · exact h
  · exact h.when _ (h.same rfl rfl)

theorem serveStartSlot (h : p.KeepsStores q) (r : Request) : p.KeepsStores (serveStartSlot r q).part := by
  unfold Machine.serveStartSlot
  split
  · exact h
  · exact h.startSlot _

theorem serveStepDone (h : p.KeepsStores q) (r : Request) : p.KeepsStores (serveStepDone r q).part := by
  unfold Machine.serveStepDone
  split
  · exact h
  · exact h.stepDoneEffect

theorem serveAbortSlot (h : p.KeepsStores q) (r : Request) : p.KeepsStores (serveAbortSlot r q).part := by
  unfold Machine.serveAbortSlot
  split
  · exact h
  · split
    · exact h
    · exact h.abort _

theorem serveReadSlot (h : p.KeepsStores q) (r : Request) : p.KeepsStores (serveReadSlot r q).part := by
  dsimp only [Machine.serveReadSlot, Answer.ok]
  exact h.modSlot _ _

theorem serveService (h : p.KeepsStores q) (r : Request) : p.KeepsStores (serveService r q).part := by
  dsimp only [Machine.serveService, Answer.ok]
  exact h.each allSlots fun _ _ hr => hr.when _ hr.serviceSilence

/-- A swapped tote has room, since every capacity in range is at least 1. -/
theorem serveToteSwap (h : p.KeepsStores q) (r : Request) : p.KeepsStores (serveToteSwap r q).part := by
  unfold Machine.serveToteSwap
  split
  · exact h
  · split
    · exact h
    · have htables := Part.tables_of_quiet (Part.swap_quiet (finN 7 r.arg) q)
      refine h.trans ⟨fun hr => by rwa [← htables] at hr, fun hr hs => ?_⟩
      obtain ⟨-, -, -, -, hcaps, -⟩ := hr
      exact hs.swap (hcaps _)

theorem serveToteWithdraw (h : p.KeepsStores q) (r : Request) : p.KeepsStores (serveToteWithdraw r q).part := by
  unfold Machine.serveToteWithdraw
  split
  · exact h
  · split
    · exact h
    · split
      · exact h
      · exact h.sorts (t := q.withdraw (finN 7 r.arg)) rfl (·.withdraw _)

theorem trafficReset (h : p.KeepsStores q) : p.KeepsStores q.trafficReset :=
  ((h.modTrunk _).each allSlots (f := Part.trafficResetSlot) fun i _ hr =>
    ((hr.modSlot i _).quietly (Part.resetLaneIfPresent_quiet i _) (Part.resetLaneIfPresent_ledger i _)).modSlot i
      _).eachFree allSlots fun _ _ hr => hr.drainCheck

/-- The rack reset leaves every tote ABSENT and empty (R190), and the tables alone. -/
theorem rackResetShared (h : p.KeepsStores q) : p.KeepsStores q.rackResetShared :=
  h.sorts rfl fun hs => Part.totesSound_of_powerUp (p := q.rackResetShared) rfl fun u => (hs.filled u).bound

theorem rackReset (h : p.KeepsStores q) : p.KeepsStores q.rackReset := by
  unfold Part.rackReset
  have hslots := (h.modTrunk TrunkPort.reset).each allSlots (f := Part.rackResetSlot) fun i _ hr =>
    (hr.modSlot i _).quietly (Part.resetLaneIfPresent_quiet i _) (Part.resetLaneIfPresent_ledger i _)
  exact (hslots.rackResetShared.eachFree allSlots fun _ _ hr => hr.seatIfSeatable).grants

theorem serveResetTraffic (h : p.KeepsStores q) (r : Request) : p.KeepsStores (serveResetTraffic r q).part := by
  dsimp only [Machine.serveResetTraffic, Answer.ok]
  exact h.trafficReset

theorem serveResetRack (h : p.KeepsStores q) (r : Request) : p.KeepsStores (serveResetRack r q).part := by
  dsimp only [Machine.serveResetRack, Answer.ok]
  exact h.rackReset

end Part.KeepsStores

/-- Every command keeps the stored ranges, and with them the totes sound. -/
theorem exec_keepsStores {c : Instr} {s s' : State} (he : exec c s = .next s') : s.part.KeepsStores s'.part := by
  have h := Part.KeepsStores.refl s.part
  have hput := exec_put he
  cases c <;> rw [State.onPart_put hput]
  case powerOn => exact .powerOn _ _ _ _ _
  case configTransferTimeout => exact h.transferTimeout _
  case configImageLoadEnd => exact h.loadEnd _
  case trunkFrameReceived => exact h.receive _ _ _ _ _
  case unknownRequestCode => exact h.take _ fun _ _ hq => hq
  case readPartId => exact h.take _ fun _ _ hq => hq
  case loadEntry => exact h.take _ fun r _ hq => hq.load r.body
  case readEntry => exact h.take _ fun r _ hq => hq.serveReadEntry r
  case readSlot => exact h.take _ fun r _ hq => hq.serveReadSlot r
  case readZone => exact h.take _ fun r _ hq => hq.serveReadZone r
  case readCounters => exact h.take _ fun r _ hq => hq.serveReadCounters r
  case startSlot => exact h.take _ fun r _ hq => hq.serveStartSlot r
  case stepDone => exact h.take _ fun r _ hq => hq.serveStepDone r
  case abortSlot => exact h.take _ fun r _ hq => hq.serveAbortSlot r
  case service => exact h.take _ fun r _ hq => hq.serveService r
  case toteSwap => exact h.take _ fun r _ hq => hq.serveToteSwap r
  case toteWithdraw => exact h.take _ fun r _ hq => hq.serveToteWithdraw r
  case resetTraffic => exact h.take _ fun r _ hq => hq.serveResetTraffic r
  case resetRack => exact h.take _ fun r _ hq => hq.serveResetRack r
  case transmitChoice => exact h.choose
  case frameSendEnd => exact h.frameSent
  case linkUp => exact h.modTrunk _
  case linkDown => exact h.modTrunk _
  case timeBaseTick => exact h.tick
  case slotSecondTick => exact h.slotSecond
  case stepTimeLimitExpiry => exact h.when _ h.slotSecond
  case presenceLineChange => exact h.modSlot _ _
  case presenceArrival => exact h.arrival
  case presenceLoss => exact h.loss
  case spinupWindowExpiry => exact h.spinupOver
  case noShowWindowExpiry => exact h.noShowOver
  case spindownWaitExpiry => exact h.spindownExpiry
  case laneCommandSendEnd => exact h.commandSent
  case resetLaneSendEnd => exact h.resetSent
  case laneMessageDropped => exact h.when _ (h.modSlot _ _)
  case laneCompletion => exact h.laneCompletion _
  case laneReady => exact h.laneReady
  case commandTimeout => exact h.commandTimeout _
  case laneRecoveryWindowExpiry => exact h.recoveryOver
  case currentFault => exact h.currentFault
  case silenceFirstExpiry => exact h.silenceFirst
  case silenceSecondExpiry => exact h.silenceSecond
  case ejectLineChange => exact h.modSlot _ _
  case ejectPressed => exact h.ejectPress
  case ejectReleased => exact h.ejectRelease
  case ejectHoldExpiry => exact h.holdOver
  case doorLineChange => exact h.same rfl rfl
  case doorChanged => exact h.doorEvent
  case sensorReadTimeout => exact h.sensorTimeout
  case sensorSample => exact h.sensorSample _
  case alarmTimerExpiry => exact h.alarmOver _

theorem step_keepsStores {s s' : State} (hs : step s = .next s') : s.part.KeepsStores s'.part := by
  unfold step at hs
  split at hs
  · cases hs
    exact .refl _
  next c rest _ => exact exec_keepsStores (s := { s with pending := rest }) hs

/-- Settles O59: a step is its command's effect, and every command keeps the stored ranges and the totes. -/
theorem stepKeepsTablesInRange : Obligations.StepKeepsTablesInRange :=
  ⟨fun _ _ h hs => (step_keepsStores hs).tables h, fun _ _ hr h hs => (step_keepsStores hs).totes hr h⟩

end Sys2Proof.Machine

namespace Sys2Proof.Machine

/-! ## A SLOT_COMMAND on its way to its Slot Engine (R1, R3) -/

/-- A SLOT_COMMAND laid out as section 1.2 says is read back, whatever follows it (R3). -/
theorem parseMessage_slotCommand (i : SlotId) (tag code : Byte) {body : List Byte} (h : body.length ≤ 1024)
    (pad : List Byte) : parseMessage (messageBytes 1 (byte i.val) tag code body ++ pad) = .command i tag code body := by
  have hn : beVal [BitVec.ofNat 8 (body.length / 256), BitVec.ofNat 8 body.length] = body.length := by
    rw [← beBytes_two, beVal_beBytes 2 _ (by omega)]
  have hslot : (byte i.val).toNat = i.val := byte_toNat_slot i
  unfold messageBytes
  rw [beBytes_two]
  change parseMessage (1 :: byte i.val :: tag :: code :: _ :: _ :: (body ++ pad)) = _
  simp [parseMessage, hn, hslot, Config.messageBodyMax, Nat.not_lt.mpr h]

/-- An accepted frame with a SLOT_COMMAND brings the command to its Slot Engine. -/
theorem exec_slotCommand (i : SlotId) (source : Mac) (tag code : Byte) {body : List Byte} (h : body.length ≤ 1024)
    (pad : List Byte) (s : State) :
    exec (frameOf s.part source (messageBytes 1 (byte i.val) tag code body) pad) s =
      .next (s.put (s.part.slotCommand i tag code body)) := by
  have haccepts : s.part.accepts s.part.trunk.station s.part.tables.rack.trunkType = true := by
    simp [Part.accepts]
  have hreceive : s.part.receive true s.part.trunk.station source s.part.tables.rack.trunkType
      (messageBytes 1 (byte i.val) tag code body ++ pad) = s.part.slotCommand i tag code body := by
    unfold Part.receive Part.message
    rw [parseMessage_slotCommand i tag code h pad, haccepts]
    rfl
  exact congrArg (fun p => Host.Outcome.next (s.put p)) hreceive

/-! ## O8: the admission checks (R69, R70) -/

/-- The class of a code is that of the one valid filter entry with the code (R69). -/
theorem Part.classOf_of_filter {p : Part} {k : Fin 64} (hu : ∀ j : Fin 64, p.tables.filters[j].valid = true →
      p.tables.filters[j].code = p.tables.filters[k].code → j = k) (hv : p.tables.filters[k].valid = true) :
    p.classOf p.tables.filters[k].code = p.tables.filters[k].cls := by
  have hfind : p.tables.filters.toList.find? (fun f => f.valid && f.code == p.tables.filters[k].code) =
      some p.tables.filters[k] := by
    rw [List.find?_eq_some_iff_getElem]
    refine ⟨by rw [hv, beq_self_eq_true]; rfl, k.val, by simp, by simp, fun m hm => ?_⟩
    have hne := hu ⟨m, by omega⟩
    rw [Bool.not_eq_true', Bool.and_eq_false_imp]
    intro hvm
    refine beq_false_of_ne fun hc => hm.ne (congrArg Fin.val (hne ?_ ?_))
    · simpa using hvm
    · simpa using hc
  unfold Part.classOf
  rw [hfind]

/-- A code of no valid filter entry has class 7 (R69). -/
theorem Part.classOf_of_no_filter {p : Part} {code : Byte}
    (h : ∀ j : Fin 64, p.tables.filters[j].valid = true → p.tables.filters[j].code ≠ code) : p.classOf code = 7 := by
  have hfind : p.tables.filters.toList.find? (fun f => f.valid && f.code == code) = none := by
    simp only [List.find?_eq_none, Vector.mem_toList_iff, Vector.mem_iff_getElem, Bool.and_eq_true, beq_iff_eq, not_and]
    rintro _ ⟨j, hj, rfl⟩ hv
    exact h ⟨j, hj⟩ hv
  unfold Part.classOf
  rw [hfind]

theorem LaneState.ne_opened_iff (l : LaneState) : l ≠ .opened ↔ l = .recovering := by cases l <;> decide

/-- Settles O8: the class looked up, and the checks one after another. -/
theorem admissionChecks : Obligations.AdmissionChecks := by
  refine ⟨fun _ _ => Part.classOf_of_filter, fun _ _ => Part.classOf_of_no_filter, fun p i tag code body => ?_⟩
  have hstate : (!(p.slot i).state.stepping) = true ↔
      (p.slot i).state ≠ .running ∧ (p.slot i).state ≠ .condemned := by
    rw [Bool.not_eq_true', ← Bool.not_eq_true, SlotState.stepping_iff, not_or]
  have htag : ((p.slot i).outstanding.any fun e => e.tag == tag) = true ↔
      ∃ e ∈ (p.slot i).outstanding, e.tag = tag := by
    simp
  unfold Part.admission
  exact if_congr Iff.rfl rfl <| if_congr hstate rfl <| if_congr (LaneState.ne_opened_iff _) rfl <|
    if_congr Iff.rfl rfl <| if_congr (by rw [Bool.not_eq_true']; rfl) rfl <| if_congr htag rfl <|
    if_congr Iff.rfl rfl <| if_congr Iff.rfl rfl rfl

/-! ## O9: a refused command (R71, R13, R90) -/

/-- Settles O9: the refusal completion by the headroom rule, and the slot's counter and latch. -/
theorem commandRefused : Obligations.CommandRefused := by
  intro i source tag code body pad st s hlen hst
  rw [exec_slotCommand i source tag code hlen pad s]
  have hcommand : s.part.slotCommand i tag code body = s.part.refuse i tag code st := by
    unfold Part.slotCommand
    rw [hst]
  rw [hcommand]
  rfl

/-! ## O10: an admitted command (R72, R74, R161) -/

theorem Part.admission_eq_none {p : Part} {i : SlotId} {tag code : Byte} {body : List Byte}
    (h : p.admission i tag code body = none) : (p.slot i).state.stepping = true ∧ (p.slot i).lane = .opened := by
  unfold Part.admission at h
  by_cases h1 : tag = probeTag
  · simp [h1] at h
  by_cases h2 : (p.slot i).state.stepping = true
  · by_cases h3 : (p.slot i).lane = .opened
    · exact ⟨h2, h3⟩
    · simp [h1, h2, h3] at h
  · simp [h1, h2] at h

/-- On an OPEN lane the transmitter considers the list (R74). -/
theorem Slot.kick_of_opened {q : Slot} (h : q.lane = .opened) : q.kick = { q with laneTx := q.takesUp } := by
  unfold Slot.kick Slot.takesUp
  by_cases hi : q.laneTx = .idle
  · rw [if_pos ⟨hi, h⟩, if_pos hi]
    cases hf : q.outstanding.find? fun e => e.state == .queued with
    | none => simp only [← hi]
    | some e => rfl
  · rw [if_neg fun hc => hi hc.1, if_neg hi]

/-- What a service makes of a slot that is in a step: stage 0, the watchdog restarted, and the lamp of its state. -/
theorem Slot.serviced_of_stepping {q : Slot} (h : q.state.stepping = true) {n : Nat} (hn : n ≠ 0) :
    q.serviced n = { q with
      stage1 := false
      silenceTimer := some ⟨n, 0⟩
      lamp := if q.state = .running then ⟨.green, .steady⟩ else ⟨.amber, .hz2⟩
      power := true } := by
  unfold Slot.serviced watchdog Slot.dress
  rw [if_neg hn]
  obtain hs | hs := (SlotState.stepping_iff q.state).mp h <;> simp only [hs] <;> rfl

theorem Part.serviceSilence_of_stepping {p : Part} {i : SlotId} (h : (p.slot i).state.stepping = true) :
    p.serviceSilence i = p.modSlot i fun q => if p.interval i = 0 then q else q.serviced (p.interval i) := by
  unfold Part.serviceSilence
  by_cases h0 : p.interval i = 0
  · rw [if_neg (by omega)]
    refine (Part.modSlot_of_fixed ?_).symm
    exact if_pos h0
  · rw [if_pos ⟨h, Nat.pos_of_ne_zero h0⟩]
    exact Part.modSlot_congr (if_neg h0).symm

theorem Part.interval_congr {i : SlotId} {p t : Part} (ht : t.tables = p.tables)
    (hr : (t.slot i).recipe = (p.slot i).recipe) (hk : (t.slot i).stepIndex = (p.slot i).stepIndex) :
    t.interval i = p.interval i := by
  unfold Part.interval Part.currentStep
  rw [hk, Part.stepAt_congr ht hr]

/-- The record with an entry at the tail of its list, counted as accepted (R72). -/
def Slot.accepting (e : Entry) (q : Slot) : Slot :=
  { q with outstanding := q.outstanding ++ [e], counters := { q.counters with accepted := inc16 q.counters.accepted } }

/-- An admitted command in the slot's record alone: the entry, the service, and the lane. -/
theorem Part.admitEntry_eq {p : Part} {i : SlotId} (hs : (p.slot i).state.stepping = true) (e : Entry) :
    p.admitEntry i e = p.modSlot i fun q => (if p.interval i = 0 then q.accepting e
      else (q.accepting e).serviced (p.interval i)).kick := by
  have hslot : (p.modSlot i (Slot.accepting e)).slot i = (p.slot i).accepting e := Part.modSlot_slot_self ..
  have hinterval : (p.modSlot i (Slot.accepting e)).interval i = p.interval i :=
    Part.interval_congr rfl (by rw [hslot]; rfl) (by rw [hslot]; rfl)
  have hservice := Part.serviceSilence_of_stepping (p := p.modSlot i (Slot.accepting e)) (i := i)
    (by rw [hslot]; exact hs)
  rw [hinterval] at hservice
  change ((p.modSlot i (Slot.accepting e)).serviceSilence i).modSlot i Slot.kick = _
  rw [hservice, Part.modSlot_modSlot, Part.modSlot_modSlot]

/-- Settles O10: the entry and its counter, the service by the step's interval, and the lane's next send. -/
theorem commandAdmitted : Obligations.CommandAdmitted := by
  intro i source tag code body pad s hlen hadm q cls q'
  obtain ⟨hstep, hlane⟩ := Part.admission_eq_none hadm
  have hcommand : s.part.slotCommand i tag code body =
      s.part.admitEntry i (s.part.newEntry i tag code body) := by
    unfold Part.slotCommand
    rw [hadm]
  have hserved : (if s.part.interval i = 0 then q.accepting (s.part.newEntry i tag code body)
      else (q.accepting (s.part.newEntry i tag code body)).serviced (s.part.interval i)) = q' := by
    by_cases h0 : s.part.interval i = 0
    · simp only [q', h0, if_true]
      rfl
    · rw [if_neg h0, Slot.serviced_of_stepping (q := q.accepting _) hstep h0]
      simp only [q', h0, if_false]
      rfl
  rw [exec_slotCommand i source tag code hlen pad s, hcommand, Part.admitEntry_eq hstep]
  refine congrArg (fun p => Host.Outcome.next (s.put p)) (Part.modSlot_congr ?_)
  exact (congrArg Slot.kick hserved).trans (Slot.kick_of_opened hlane)

/-! ## O39: the end of a lane send (R74, R75, R88) -/

/-- The lane transmitter's choice touches nothing else of the record. -/
theorem Slot.kick_eq (q : Slot) : q.kick = { q with laneTx := q.kick.laneTx } := by
  unfold Slot.kick
  split
  · split <;> rfl
  · rfl

/-- Nothing is taken up on a RECOVERING lane, or where no entry is QUEUED. -/
theorem Slot.kick_of_nothing {q : Slot} (h : q.laneTx = .idle)
    (hn : q.lane = .recovering ∨ ∀ e ∈ q.outstanding, e.state ≠ .queued) : q.kick.laneTx = .idle := by
  unfold Slot.kick
  split
  next hc =>
    have hnone : q.outstanding.find? (fun e => e.state == .queued) = none := by
      rw [List.find?_eq_none]
      intro e he
      have := hn.resolve_left (by rw [hc.2]; decide) e he
      simpa using this
    rw [hnone]
    exact h
  · exact h

/-- On an OPEN lane the COMMAND of the oldest QUEUED entry is begun. -/
theorem Slot.kick_of_oldest {q : Slot} {before after : List Entry} {e : Entry} (h : q.laneTx = .idle)
    (ho : q.lane = .opened) (hl : q.outstanding = before ++ e :: after) (he : e.state = .queued)
    (hb : ∀ x ∈ before, x.state ≠ .queued) : q.kick.laneTx = .command e.tag (commandUnit e.tag e.code e.body) := by
  have hfind : q.outstanding.find? (fun e => e.state == .queued) = some e :=
    List.find?_eq_some_iff_append.mpr
      ⟨beq_iff_eq.mpr he, before, after, hl, fun x hx => by simpa using hb x hx⟩
  unfold Slot.kick
  rw [if_pos ⟨h, ho⟩, hfind]
  rfl

/-- An end of a lane send leaves the record `x`, whose idle transmitter then considers the list: the rest of the part
is as it was. -/
theorem Part.laneFreed (p : Part) (i : SlotId) {x : Slot} (hx : x.laneTx = .idle) :
    let t := p.modSlot i fun _ => x.kick
    t = { p with slots := t.slots } ∧ (∀ j, j ≠ i → t.slot j = p.slot j) ∧
      (((x.lane = .recovering ∨ ∀ e ∈ x.outstanding, e.state ≠ .queued) → (t.slot i).laneTx = .idle) ∧
        (∀ before e after, x.lane = .opened → x.outstanding = before ++ e :: after → e.state = .queued →
          (∀ y ∈ before, y.state ≠ .queued) →
          (t.slot i).laneTx = .command e.tag (commandUnit e.tag e.code e.body))) ∧
      t.slot i = { x with laneTx := (t.slot i).laneTx } := by
  intro t
  have hslot : t.slot i = x.kick := Part.modSlot_slot_self ..
  refine ⟨rfl, fun j hj => Part.modSlot_slot_ne hj.symm _ _, ⟨fun hn => ?_, fun before e after ho hl he hb => ?_⟩, ?_⟩
  · rw [hslot]; exact Slot.kick_of_nothing hx hn
  · rw [hslot]; exact Slot.kick_of_oldest hx ho hl he hb
  · rw [hslot]; exact Slot.kick_eq x

theorem setEntry_issue (tag : Byte) (now : Time) (l : List Entry) :
    setEntry tag (·.issue now) l = l.map fun e => if e.tag = tag then
      { e with state := .issued now (if e.tag = 255 then none else some ⟨e.timeout, 0⟩) } else e := by
  unfold setEntry
  refine List.map_congr_left fun e _ => ?_
  by_cases h : e.tag = tag
  · simp [h, Entry.issue, Entry.isProbe, probeTag, Timer.start]
  · simp [h]

theorem Part.commandSent_of_other {i : SlotId} {p : Part} (h : ∀ tag unit, (p.slot i).laneTx ≠ .command tag unit) :
    p.commandSent i = p := by
  unfold Part.commandSent
  split
  · rfl
  · rfl
  next tag unit hc => exact absurd hc (h tag unit)

theorem Part.commandSent_of_command {i : SlotId} {p : Part} {tag : Byte} {unit : List Byte}
    (h : (p.slot i).laneTx = .command tag unit) :
    p.commandSent i = p.modSlot i fun _ => Slot.kick { p.slot i with
      laneTx := .idle
      laneOut := some (.whole unit)
      outstanding := setEntry tag (·.issue p.now) (p.slot i).outstanding } := by
  unfold Part.commandSent
  rw [h]
  exact Part.modSlot_congr rfl

theorem Part.resetSent_of_other {i : SlotId} {p : Part} (h : (p.slot i).laneTx ≠ .resetLane) : p.resetSent i = p := by
  unfold Part.resetSent
  split
  · rfl
  · rfl
  next hc => exact absurd hc h

theorem Part.resetSent_of_reset {i : SlotId} {p : Part} (h : (p.slot i).laneTx = .resetLane) :
    p.resetSent i = p.modSlot i fun _ => Slot.kick { p.slot i with
      laneTx := .idle
      laneOut := some (.whole resetLaneUnit) } := by
  unfold Part.resetSent
  rw [h]
  exact Part.modSlot_congr rfl

/-- Settles O39: each send's end frees the lane with its own record (`Part.laneFreed`). -/
theorem laneSendsEnd : Obligations.LaneSendsEnd := by
  intro i s q next
  have hcommand : exec (.laneCommandSendEnd i) s = .next (s.put (s.part.commandSent i)) := rfl
  have hreset : exec (.resetLaneSendEnd i) s = .next (s.put (s.part.resetSent i)) := rfl
  refine ⟨fun hn => ?_, fun tag unit htx => ?_, fun hn => ?_, fun htx => ?_⟩
  · rw [hcommand, Part.commandSent_of_other hn]
    rfl
  · intro l
    have hl : setEntry tag (·.issue s.part.now) q.outstanding = l := setEntry_issue tag s.part.now q.outstanding
    rw [hcommand, Part.commandSent_of_command htx, hl]
    obtain ⟨hframe, hothers, hnext, hslot⟩ := s.part.laneFreed i
      (x := { q with laneTx := .idle, laneOut := some (.whole unit), outstanding := l }) rfl
    exact ⟨_, rfl, hframe, hothers, hnext, hslot⟩
  · rw [hreset, Part.resetSent_of_other hn]
    rfl
  · rw [hreset, Part.resetSent_of_reset htx]
    obtain ⟨hframe, hothers, hnext, hslot⟩ := s.part.laneFreed i
      (x := { q with laneTx := .idle, laneOut := some (.whole resetLaneUnit) }) rfl
    exact ⟨_, rfl, hframe, hothers, hnext, hslot⟩

end Sys2Proof.Machine

namespace Sys2Proof

/-! ## O40: lane units, as they are laid out and as they are judged (R77, R203) -/

theorem laneSum_lt (l : List Byte) : laneSum l < 65536 := Nat.mod_lt _ (by decide)

/-- A unit is judged by its check first, and then by the bytes before it. -/
theorem judgeUnit_append_check (t : Byte) (rest : List Byte) {v : Nat} (hv : v < 65536) :
    judgeUnit (t :: rest ++ beBytes 2 v) =
      if v ≠ laneSum (t :: rest) then .dropped
      else if t = 2 then readCompletion rest
      else if t = 4 ∧ rest = [] then .ready
      else .dropped := by
  have hlen : (t :: rest ++ beBytes 2 v).length - 2 = (t :: rest).length := by simp
  have hfront : ¬ (t :: rest ++ beBytes 2 v).length < 3 := by simp
  unfold judgeUnit
  rw [if_neg hfront, hlen, List.drop_left, List.take_left, beVal_beBytes 2 v hv]

/-- A unit with a good check is judged by its type and its content. -/
theorem judgeUnit_withCheck (t : Byte) (rest : List Byte) :
    judgeUnit (withCheck (t :: rest)) =
      if t = 2 then readCompletion rest else if t = 4 ∧ rest = [] then .ready else .dropped :=
  (judgeUnit_append_check t rest (laneSum_lt _)).trans (if_neg (not_not.mpr rfl))

theorem judgeUnit_completion (content : List Byte) :
    judgeUnit (withCheck (2 :: content)) = readCompletion content := judgeUnit_withCheck 2 content

/-- The check of a unit cut short is its sum plus 1, so it is never that of its bytes. -/
theorem judgeUnit_cutUnit (unit : List Byte) (n : Nat) : judgeUnit (cutUnit unit n) = .dropped := by
  unfold cutUnit
  cases unit.take n with
  | nil => rfl
  | cons t rest =>
    rw [judgeUnit_append_check t rest (Nat.mod_lt _ (by decide)), if_pos]
    have := laneSum_lt (t :: rest)
    omega

theorem judgeUnit_of_bad_check {unit : List Byte}
    (h : unit.length < 3 ∨ field unit (unit.length - 2) 2 ≠ laneSum (unit.take (unit.length - 2))) :
    judgeUnit unit = .dropped := by
  unfold judgeUnit
  by_cases hlen : unit.length < 3
  · exact if_pos hlen
  · have hcheck := h.resolve_left hlen
    have htail : (unit.drop (unit.length - 2)).take 2 = unit.drop (unit.length - 2) :=
      List.take_of_length_le (by rw [List.length_drop]; omega)
    unfold field at hcheck
    rw [htail] at hcheck
    rw [if_neg hlen, if_pos hcheck]

/-! ### The content of a COMPLETION (R106, R203) -/

/-- Content whose status is a drive's, by its flag and what follows the flag. -/
theorem readCompletion_of_status {st : Byte} {d : DriveStatus} (h : DriveStatus.ofByte st = some d)
    (tag delta c1 c0 flag : Byte) (identity : List Byte) :
    readCompletion (tag :: st :: delta :: c1 :: c0 :: flag :: identity) =
      if flag = 0 ∧ identity = [] then .completion ⟨tag, d, delta.toNat, beVal [c1, c0], none⟩
      else if flag = 1 ∧ identity.length = 32 then
        .completion ⟨tag, d, delta.toNat, beVal [c1, c0], some (.ofBytes identity)⟩
      else .dropped := by
  simp only [readCompletion, h]

theorem readCompletion_of_no_status {st : Byte} (h : DriveStatus.ofByte st = none) (tag : Byte) (content : List Byte) :
    readCompletion (tag :: st :: content) = .dropped := by
  match content with
  | _ :: _ :: _ :: _ :: _ => simp only [readCompletion, h]
  | [] | [_] | [_, _] | [_, _, _] => rfl

/-- Content too short for a tag, a status, two counts and a flag. -/
theorem readCompletion_of_short {content : List Byte} (h : content.length < 6) : readCompletion content = .dropped := by
  unfold readCompletion
  split
  · simp only [List.length_cons] at h
    omega
  · rfl

theorem DriveStatus.ofByte_eq_none {st : Byte} (h : 4 < st.toNat) : DriveStatus.ofByte st = none := by
  obtain ⟨k, hk⟩ := Nat.exists_eq_add_of_le' h
  unfold DriveStatus.ofByte
  rw [hk]
  rfl

theorem readCompletion_of_bad_flag {flag : Byte} {identity : List Byte}
    (h : 1 < flag.toNat ∨ (flag = 0 ∧ identity ≠ []) ∨ (flag = 1 ∧ identity.length ≠ 32)) (tag st delta c1 c0 : Byte) :
    readCompletion (tag :: st :: delta :: c1 :: c0 :: flag :: identity) = .dropped := by
  have h0 : ¬ (flag = 0 ∧ identity = []) := by rintro ⟨rfl, rfl⟩; simp at h
  have h1 : ¬ (flag = 1 ∧ identity.length = 32) := by rintro ⟨rfl, hl⟩; simp [hl] at h
  cases hst : DriveStatus.ofByte st with
  | none => exact readCompletion_of_no_status hst tag _
  | some d => rw [readCompletion_of_status hst, if_neg h0, if_neg h1]

theorem padTo_of_length {n : Nat} {l : List Byte} (h : l.length = n) : padTo n l = l := by
  unfold padTo
  rw [List.take_append_of_le_length h.ge, List.take_of_length_le h.le]

/-- An identity that fits its fields is read back from its 32 bytes (R106). -/
theorem Identity.ofBytes_bytes {d : Identity} (hs : d.serial.length = 20) (hf : d.firmware.length = 8)
    (hc : d.capacity < 4294967296) : d.bytes.length = 32 ∧ Identity.ofBytes d.bytes = d := by
  have hb : d.bytes = d.serial ++ (d.firmware ++ (beBytes 4 d.capacity ++ [])) := by
    unfold Identity.bytes
    rw [padTo_of_length hs, padTo_of_length hf, List.append_nil, List.append_assoc]
  have hcap : field d.bytes 28 4 = d.capacity := by
    rw [hb, field_append _ _ _ _ (by omega), field_append _ _ _ _ (by omega), hs, hf]
    exact field_beBytes 4 d.capacity [] hc
  have hser : d.bytes.take 20 = d.serial := by rw [hb, ← hs, List.take_left]
  have hfw : (d.bytes.drop 20).take 8 = d.firmware := by rw [hb, ← hs, List.drop_left, ← hf, List.take_left]
  refine ⟨by rw [hb]; simp [hs, hf], ?_⟩
  unfold Identity.ofBytes
  rw [hser, hfw, hcap]

/-- A COMPLETION is read back with every field, with and without an identity (R203). -/
theorem judgeUnit_completionUnit {st : Byte} {d : DriveStatus} {delta coverage : Nat} {identity : Option Identity}
    (hst : DriveStatus.ofByte st = some d) (hdelta : delta < 256) (hcov : coverage < 65536)
    (hid : ∀ x, identity = some x → x.serial.length = 20 ∧ x.firmware.length = 8 ∧ x.capacity < 4294967296)
    (tag : Byte) :
    judgeUnit (completionUnit tag st delta coverage identity) = .completion ⟨tag, d, delta, coverage, identity⟩ := by
  have hd : (BitVec.ofNat 8 delta).toNat = delta := Nat.mod_eq_of_lt hdelta
  have hc : beVal [BitVec.ofNat 8 (coverage / 256), BitVec.ofNat 8 coverage] = coverage := by
    rw [← beBytes_two, beVal_beBytes 2 coverage hcov]
  unfold completionUnit
  rw [beBytes_two]
  cases identity with
  | none =>
    refine (judgeUnit_completion _).trans ?_
    change readCompletion (tag :: st :: _ :: _ :: _ :: 0 :: []) = _
    rw [readCompletion_of_status hst, hd, hc]
    exact if_pos ⟨rfl, rfl⟩
  | some x =>
    obtain ⟨hs, hf, hcap⟩ := hid x rfl
    obtain ⟨hlen, hread⟩ := Identity.ofBytes_bytes hs hf hcap
    refine (judgeUnit_completion _).trans ?_
    change readCompletion (tag :: st :: _ :: _ :: _ :: 1 :: x.bytes) = _
    rw [readCompletion_of_status hst, hd, hc, hread]
    exact (if_neg fun h => absurd h.1 (by decide)).trans (if_pos ⟨rfl, hlen⟩)

end Sys2Proof

namespace Sys2Proof.Machine

/-- Settles O40: each unit by its check, its type and its content, and the count of a dropped one. -/
theorem laneUnitsAreJudged : Obligations.LaneUnitsAreJudged := by
  refine ⟨fun tag _ _ _ _ _ hst hdelta hcov hid => judgeUnit_completionUnit hst hdelta hcov hid tag,
    judgeUnit_withCheck 4 [], judgeUnit_cutUnit, fun t content h2 h4 => ?_, fun tag st content hst => ?_,
    fun _ => judgeUnit_of_bad_check, fun content hne => ?_, fun content hlen => ?_,
    fun tag st delta c1 c0 flag identity hbad => ?_, fun i unit s hdrop => ?_⟩
  · rw [judgeUnit_withCheck, if_neg h2, if_neg fun h => h4 h.1]
  · rw [judgeUnit_completion, readCompletion_of_no_status (DriveStatus.ofByte_eq_none hst)]
  · rw [judgeUnit_withCheck, if_neg (by decide), if_neg fun h => hne h.2]
  · rw [judgeUnit_completion, readCompletion_of_short hlen]
  · rw [judgeUnit_completion, readCompletion_of_bad_flag hbad]
  · have hexec : exec (.laneMessageDropped i unit) s = .next (s.put (s.part.laneDropped i unit)) := rfl
    rw [hexec]
    exact congrArg (fun p => Host.Outcome.next (s.put p)) (if_pos (beq_iff_eq.mpr hdrop))

/-! ## O41: an orphan completion (R79) -/

/-- A COMPLETION whose tag no ISSUED entry holds is an orphan, in every slot state. -/
theorem Part.laneCompletion_of_orphan {i : SlotId} {unit : List Byte} {m : CompletionMsg} {p : Part}
    (hu : judgeUnit unit = .completion m) (hn : ∀ e ∈ (p.slot i).outstanding, e.tag = m.tag → e.isIssued = false) :
    p.laneCompletion i unit = p.orphan i := by
  have hfind : (p.slot i).outstanding.find? (fun e => e.tag == m.tag && e.isIssued) = none := by
    rw [List.find?_eq_none]
    intro e he
    by_cases ht : e.tag = m.tag
    · simp [hn e he ht]
    · simp [ht]
  unfold Part.laneCompletion
  rw [hu]
  simp only [Part.takeCompletion, hfind]

/-- Settles O41: no entry is found, and the orphan is counted and latched. -/
theorem orphanIsDropped : Obligations.OrphanIsDropped := by
  intro i unit m s hu hn
  have hexec : exec (.laneCompletion i unit) s = .next (s.put (s.part.laneCompletion i unit)) := rfl
  rw [hexec, Part.laneCompletion_of_orphan hu hn]
  rfl

end Sys2Proof.Machine

namespace Sys2Proof.Machine

/-! ## O44: a command timeout (R82, R83, R98, R105) -/

/-- COMMAND_TIMEOUT of the first entry of its tag, whose timer is due. -/
theorem Part.commandTimeout_of_due {i : SlotId} {tag : Byte} {e : Entry} {t0 : Time} {tm : Timer} {p : Part}
    (hw : (p.slot i).state.atWork = true) (he : e.tag = tag) (hi : e.state = .issued t0 (some tm)) (hd : tm.due = true)
    (ho : ∃ before after, (p.slot i).outstanding = before ++ e :: after ∧ ∀ y ∈ before, y.tag ≠ tag) :
    p.commandTimeout i tag = p.timedOut i e := by
  obtain ⟨before, after, hl, hb⟩ := ho
  have hdue : (e.tag == tag && e.timerDue) = true := by
    unfold Entry.timerDue
    simp [he, hi, timerDue, hd]
  have hfind : (p.slot i).outstanding.find? (fun e => e.tag == tag && e.timerDue) = some e :=
    List.find?_eq_some_iff_append.mpr ⟨hdue, before, after, hl, fun y hy => by simp [hb y hy]⟩
  unfold Part.commandTimeout
  rw [if_pos hw, hfind]

/-- A counted TIMEOUT adds to F alone (R98): it has no drive fields and is not measured. -/
theorem Accum.count_timeout (a : Accum) (e : Entry) (delta coverage latency : Nat) :
    a.count (e.handing .timeout delta coverage latency) = { a with f := min 65535 (a.f + 1) } := by
  simp [Accum.count, Accum.addCoverage, Accum.addUncorrectable, Accum.addCorrected, Accum.addFault,
    Accum.addReallocations, Accum.addSlow, Accum.addLatency, Entry.handing, Status.ofDrive, Status.measured, inc16,
    satAdd, Config.max16]

/-- The accumulators after the TIMEOUT of an entry has been handed to the Score Unit (R95, R98). -/
def Part.accTimedOut (p : Part) (i : SlotId) (e : Entry) : Accum :=
  if p.counts i (e.handing .timeout 0 0 0) then { (p.slot i).acc with f := min 65535 ((p.slot i).acc.f + 1) }
  else (p.slot i).acc

/-- The part with the entry DONE, its TIMEOUT appended and handed to the Score Unit (R82, steps 1 and 2). -/
def Part.expired (i : SlotId) (e : Entry) (p : Part) : Part :=
  (p.modSlot i fun y => { y with
    outstanding := setEntry e.tag Entry.finish y.outstanding
    acc := p.accTimedOut i e }).pushCompletion (e.madeCompletion i .timeout)

theorem Part.pushCompletion_modSlot (c : Completion) (i : SlotId) (f : Slot → Slot) (p : Part) :
    (p.pushCompletion c).modSlot i f = (p.modSlot i f).pushCompletion c := rfl

theorem Part.expired_slot (i : SlotId) (e : Entry) (p : Part) : (p.expired i e).slot i = { p.slot i with
    outstanding := setEntry e.tag Entry.finish (p.slot i).outstanding
    acc := p.accTimedOut i e } := by
  unfold Part.expired
  rw [Part.pushCompletion_slot, Part.modSlot_slot_self]

theorem Part.limitsOf_congr {i : SlotId} {p t : Part} (ht : t.tables = p.tables)
    (hr : (t.slot i).recipe = (p.slot i).recipe) : t.limitsOf i = p.limitsOf i := by
  unfold Part.limitsOf Part.recipeOf
  rw [ht, hr]

theorem Part.counts_congr {i : SlotId} {p t : Part} (ht : t.tables = p.tables)
    (hr : (t.slot i).recipe = (p.slot i).recipe) (ha : (t.slot i).acc = (p.slot i).acc) (x : Handing) :
    t.counts i x = p.counts i x := by
  unfold Part.counts
  rw [Part.stepAt_congr ht hr, ha]

/-- A TIMEOUT never condemns a slot whose record is frozen or whose U is at most the cap (R104, R105). -/
theorem Part.hand_timeout {i : SlotId} {p : Part}
    (hcap : (p.slot i).acc.frozen = true ∨ (p.slot i).acc.u ≤ (p.limitsOf i).cap) (e : Entry) :
    p.hand i (e.handing .timeout 0 0 0) = (p.modSlot i fun y => { y with acc := p.accTimedOut i e }, false) := by
  unfold Part.hand Part.accTimedOut
  by_cases hc : p.counts i (e.handing .timeout 0 0 0) = true
  · obtain ⟨-, -, hf⟩ := (p.counts_iff i _).mp hc
    have hu := hcap.resolve_left (by rw [hf]; decide)
    simp only [hc, if_true, Accum.count_timeout]
    rw [if_neg (Nat.not_lt.mpr hu)]
  · simp only [hc, Bool.false_eq_true, if_false]
    rw [Part.modSlot_of_fixed rfl]

/-- A timeout's two ways on (R82, R83), by the recoveries left. -/
theorem Part.timedOut_eq {i : SlotId} {p : Part}
    (hcap : (p.slot i).acc.frozen = true ∨ (p.slot i).acc.u ≤ (p.limitsOf i).cap) (e : Entry) :
    p.timedOut i e =
      if p.tables.rack.recoveryMax ≤ (p.slot i).recoveries then
        ((p.expired i e).laneNotice i .exhausted e.tag).endEarly i .unresponsive
      else (p.expired i e).startRecovery i e.tag := by
  obtain ⟨q, hq⟩ : ∃ q, q = (p.modSlot i fun s => { s with
      outstanding := setEntry e.tag Entry.finish s.outstanding }).pushCompletion (e.madeCompletion i .timeout) :=
    ⟨_, rfl⟩
  have hslot : q.slot i = { p.slot i with outstanding := setEntry e.tag Entry.finish (p.slot i).outstanding } := by
    rw [hq, Part.pushCompletion_slot, Part.modSlot_slot_self]
  have htables : q.tables = p.tables := by rw [hq]; rfl
  have hrecipe : (q.slot i).recipe = (p.slot i).recipe := by rw [hslot]
  have hacc : q.accTimedOut i e = p.accTimedOut i e := by
    unfold Part.accTimedOut
    rw [Part.counts_congr htables hrecipe (by rw [hslot]), hslot]
  have hhand : q.hand i (e.handing .timeout 0 0 0) = (p.expired i e, false) := by
    rw [Part.hand_timeout (by rw [hslot, Part.limitsOf_congr htables hrecipe]; exact hcap), hacc, hq,
      Part.pushCompletion_modSlot, Part.modSlot_modSlot]
    rfl
  unfold Part.timedOut
  simp only [← hq, hhand, Part.when_false, Part.expired_slot]
  rfl

/-- The entries that are still open once a tag's are DONE are those of the other tags. -/
theorem filter_setEntry_finish (tag : Byte) (l : List Entry) :
    (setEntry tag Entry.finish l).filter (fun y => y.state != .done && y.tag != 255) =
      l.filter fun y => y.state != .done && y.tag != 255 && y.tag != tag := by
  induction l with
  | nil => rfl
  | cons y l ih =>
    unfold setEntry at ih ⊢
    rw [List.map_cons, List.filter_cons, List.filter_cons, ih]
    by_cases h : y.tag = tag <;> simp [h, Entry.finish]

theorem Part.expired_endCompletions (i : SlotId) (e : Entry) (p : Part) (st : Status) :
    (p.expired i e).endCompletions i st =
      ((p.slot i).outstanding.filter fun y => y.state != .done && y.tag != 255 && y.tag != e.tag).map
        (Entry.madeCompletion i st) := by
  unfold Part.endCompletions
  rw [Part.expired_slot, filter_setEntry_finish]
  rfl

/-! ### Recovery (R82) -/

/-- The list of a recovering slot: every entry but the probe, DONE. -/
theorem finish_setEntry_finish (tag : Byte) (l : List Entry) :
    ((setEntry tag Entry.finish l).filter fun y => !y.isProbe).map Entry.finish =
      (l.filter fun y => y.tag != 255).map fun y => { y with state := .done } := by
  have htag : ∀ y : Entry, (if y.tag == tag then y.finish else y).tag = y.tag := fun y => by split <;> rfl
  have hdone : ∀ y : Entry, (if y.tag == tag then y.finish else y).finish = y.finish := fun y => by split <;> rfl
  unfold setEntry
  rw [List.filter_map, List.map_map]
  simp only [Function.comp_def, Entry.isProbe, htag, hdone]
  rfl

theorem Part.startRecovery_completions (i : SlotId) (tag : Byte) (p : Part) :
    (p.startRecovery i tag).trunk.completions = p.trunk.completions ++ p.endCompletions i .aborted := by
  have hmoves : (p.completeOpen i .aborted).Moves i (p.startRecovery i tag) :=
    ((Part.Moves.refl i _).sendReset.edit _ id).raise _
  exact hmoves.completions.trans (p.completeOpen_completions i .aborted)

theorem Part.startRecovery_slot (i : SlotId) (tag : Byte) (p : Part) :
    ∃ out, (p.startRecovery i tag).slot i = { p.slot i with
      outstanding := ((p.slot i).outstanding.filter fun e => !e.isProbe).map Entry.finish
      laneTx := .resetLane
      laneOut := out
      lane := .recovering
      recoveries := (p.slot i).recoveries + 1
      recoveryTimer := some ⟨p.tables.rack.recoveryWindow, 0⟩
      sticky := { (p.slot i).sticky with laneRecovered := true } } := by
  obtain ⟨out, h⟩ := (p.completeOpen i .aborted).sendReset_slot i
  refine ⟨out, ?_⟩
  unfold Part.startRecovery Part.laneNotice
  rw [Part.raise_slot, Part.modSlot_slot_self, h, Part.modSlot_slot_self, Part.completeOpen_slot,
    Part.modSlot_slot_self]
  rfl

/-! ### The recovery maximum (R83) -/

theorem Slot.ended_acc (c : Cause) (out : Option LaneEnd) (q : Slot) : (q.ended c out).acc = q.acc := by
  unfold Slot.ended Slot.endEarly
  rw [Slot.record_eq]
  rfl

theorem Part.spunDown_acc (p : Part) (q : Slot) : (p.spunDown q).acc = q.acc := by
  unfold Part.spunDown
  split <;> rfl

/-- An early end leaves the accumulators as they are. -/
theorem Part.endEarly_acc {i : SlotId} {p : Part} (c : Cause) (h : (p.slot i).state = .spinup → i ∉ p.spinQueue) :
    ((p.endEarly i c).slot i).acc = (p.slot i).acc := by
  obtain ⟨out, b, hb⟩ := Part.endEarly_like c h
  rw [hb]
  exact (p.spunDown_acc _).trans (Slot.ended_acc c out _)

/-- The end of the test of a slot at work whose recoveries are used up (R83). -/
theorem Part.exhausted_endedEarly {i : SlotId} {p : Part} (h : (p.slot i).state ≠ .spinup) (tag : Byte) :
    let t := (p.laneNotice i .exhausted tag).endEarly i .unresponsive
    t.trunk.completions = p.trunk.completions ++ p.endCompletions i .aborted ∧ (t.slot i).acc = (p.slot i).acc ∧
      EndedEarly i .unresponsive p t := by
  intro t
  have hslot : (p.laneNotice i .exhausted tag).slot i = p.slot i := Part.raise_slot ..
  have htrunk : (p.laneNotice i .exhausted tag).trunk.completions = p.trunk.completions :=
    ((Part.Moves.refl i p).raise _).completions
  have hspin : ((p.laneNotice i .exhausted tag).slot i).state = .spinup →
      i ∉ (p.laneNotice i .exhausted tag).spinQueue :=
    fun hs => absurd (hslot ▸ hs) h
  refine ⟨?_, ?_, (Part.endEarly_endedEarly _ hspin).congr ?_ ?_ (Part.raise_tables ..).symm⟩
  · rw [Part.endEarly_completions, htrunk, Part.endCompletions_congr (congrArg Slot.outstanding hslot)]
    rfl
  · rw [Part.endEarly_acc _ hspin, hslot]
  · rw [hslot]
  · rw [hslot]

/-- Settles O44: TIMEOUT for the entry, and then a recovery or an early end by the recoveries left. -/
theorem commandTimesOut : Obligations.CommandTimesOut := by
  intro i tag e t0 tm s q made others counted hs htag he hi hd ho hcap
  subst he
  have hwork : q.state.atWork = true ∧ q.state ≠ .spinup := by
    have hs' : q.state = .running ∨ q.state = .condemned ∨ q.state = .draining := by simpa using hs
    obtain h | h | h := hs' <;> rw [h] <;> decide
  have hexec : exec (.commandTimeout i e.tag) s = .next (s.put (s.part.timedOut i e)) :=
    congrArg (fun p => Host.Outcome.next (s.put p)) (Part.commandTimeout_of_due hwork.1 rfl hi hd ho)
  have hcounts : s.part.counts i (e.handing .timeout 0 0 0) = true ↔ counted := s.part.counts_iff i _
  have hcounted : counted → s.part.accTimedOut i e = { q.acc with f := min 65535 (q.acc.f + 1) } :=
    fun hc => if_pos (hcounts.mpr hc)
  have hnot : ¬ counted → s.part.accTimedOut i e = q.acc := fun hc => if_neg (mt hcounts.mp hc)
  have hslot := s.part.expired_slot i e
  have hmade : (s.part.expired i e).trunk.completions ++ (s.part.expired i e).endCompletions i .aborted =
      s.part.trunk.completions ++ made .timeout e :: others.map (made .aborted) := by
    rw [Part.expired_endCompletions]
    exact List.append_assoc ..
  rw [hexec, Part.timedOut_eq hcap]
  by_cases hmax : s.part.tables.rack.recoveryMax ≤ q.recoveries
  · rw [if_pos hmax]
    obtain ⟨hcompletions, hacc, hended⟩ := Part.exhausted_endedEarly (p := s.part.expired i e) (i := i)
      (by rw [hslot]; exact hwork.2) e.tag
    rw [hslot] at hacc
    refine ⟨_, rfl, hcompletions.trans hmade, fun hc => hacc.trans (hcounted hc), fun hc => hacc.trans (hnot hc),
      fun hlt => absurd hmax (Nat.not_le.mpr hlt), fun _ => hended.congr ?_ ?_ rfl⟩
    · rw [hslot]
    · rw [hslot]
  · rw [if_neg hmax]
    obtain ⟨out, hrec⟩ := (s.part.expired i e).startRecovery_slot i e.tag
    rw [hslot, finish_setEntry_finish] at hrec
    have hacc := congrArg Slot.acc hrec
    refine ⟨_, rfl, ((s.part.expired i e).startRecovery_completions i e.tag).trans hmade,
      fun hc => hacc.trans (hcounted hc), fun hc => hacc.trans (hnot hc), fun _ => ?_, fun hle => absurd hle hmax⟩
    rw [hrec]
    rfl

end Sys2Proof.Machine

namespace Sys2Proof.Machine

/-! ## O49: the additions of a counted completion (R97 to R103) -/

theorem Status.ofDrive_iff (st : Status) : st.ofDrive = true ↔ ∃ d, st = .drive d := by
  cases st <;> simp [Status.ofDrive]

theorem Status.measured_iff (st : Status) : st.measured = true ↔
    st = .drive .good ∨ st = .drive .corrected ∨ st = .drive .uncorrectable ∨ st = .drive .driveError := by
  cases st with
  | drive d => cases d <;> simp [Status.measured]
  | _ => simp [Status.measured]

/-! ### Each addition writes its own field alone -/

section
variable (x : Handing) (a : Accum)

theorem Accum.addCoverage_eq : a.addCoverage x = { a with
    v := if (x.status = .drive .good ∨ x.status = .drive .corrected) ∧ x.covers = true
      then min 4294967295 (a.v + x.coverage) else a.v } := by
  unfold Accum.addCoverage
  split <;> rfl

theorem Accum.addUncorrectable_eq : a.addUncorrectable x = { a with
    u := if x.status = .drive .uncorrectable then min 65535 (a.u + 1) else a.u } := by
  unfold Accum.addUncorrectable
  split <;> rfl

theorem Accum.addCorrected_eq : a.addCorrected x = { a with
    c := if x.status = .drive .corrected then min 65535 (a.c + 1) else a.c } := by
  unfold Accum.addCorrected
  split <;> rfl

theorem Accum.addFault_eq : a.addFault x = { a with
    f := if x.status = .drive .driveError ∨ x.status = .timeout then min 65535 (a.f + 1) else a.f } := by
  unfold Accum.addFault
  split <;> rfl

theorem Accum.addReallocations_eq : a.addReallocations x = { a with
    r := if x.status.ofDrive then min 65535 (a.r + x.delta) else a.r } := by
  unfold Accum.addReallocations
  split <;> rfl

theorem Accum.addSlow_eq : a.addSlow x = { a with
    s := if x.status.measured = true ∧ x.slow < x.latency then min 65535 (a.s + 1) else a.s } := by
  unfold Accum.addSlow
  split <;> rfl

theorem Accum.addLatency_eq : a.addLatency x = { a with
    hist := if x.status.measured then histAdd (bucketOf x.latency) a.hist else a.hist } := by
  unfold Accum.addLatency
  split <;> rfl

/-- No addition reads what another writes, so each field of the result is its own addition's (R96). -/
theorem Accum.count_eq : a.count x = {
    v := (a.addCoverage x).v
    u := (a.addUncorrectable x).u
    r := (a.addReallocations x).r
    c := (a.addCorrected x).c
    f := (a.addFault x).f
    s := (a.addSlow x).s
    hist := (a.addLatency x).hist
    frozen := a.frozen } := by
  simp only [Accum.count, Accum.addCoverage_eq, Accum.addUncorrectable_eq, Accum.addCorrected_eq,
    Accum.addFault_eq, Accum.addReallocations_eq, Accum.addSlow_eq, Accum.addLatency_eq]

end

/-! ### The histogram -/

theorem set_succ_get (b k : Fin 8) (g : Vector Nat 8) :
    (g.set b (g[b] + 1))[k] = g[k] + (if k = b then 1 else 0) := by
  by_cases hk : k = b
  · subst hk
    simp
  · have hne : b.val ≠ k.val := fun h => hk (Fin.ext h.symm)
    simp [hk, hne]

/-- The chosen bucket grows by 1, after a halving of all eight where it was full (R102). -/
theorem histAdd_get (b k : Fin 8) (h : Vector Nat 8) :
    (histAdd b h)[k] = (if h[b] = 65535 then h[k] / 2 else h[k]) + (if k = b then 1 else 0) := by
  unfold histAdd Config.max16
  rw [set_succ_get]
  split
  · exact congrArg (· + _) (mapV_get ..)
  · rfl

/-- Bucket `k` or a later one is chosen from a latency of 2 ^ k on (R101): each threshold against each branch. -/
theorem le_bucketOf_iff {k : Nat} (hpos : 0 < k) (hk : k ≤ 7) (l : Nat) : k ≤ (bucketOf l).val ↔ 2 ^ k ≤ l := by
  unfold bucketOf
  interval_cases k <;> split_ifs <;> omega

theorem bucketOf_eq_zero_iff (l : Nat) : bucketOf l = 0 ↔ l < 2 := by
  have := le_bucketOf_iff (k := 1) (by decide) (by decide) l
  omega

theorem bucketOf_eq_seven_iff (l : Nat) : bucketOf l = 7 ↔ 128 ≤ l := by
  have := le_bucketOf_iff (k := 7) (by decide) (by decide) l
  omega

theorem bucketOf_eq_iff {k : Fin 8} (hpos : 0 < k.val) (hk : k.val < 7) (l : Nat) :
    bucketOf l = k ↔ 2 ^ k.val ≤ l ∧ l < 2 ^ (k.val + 1) := by
  rw [← le_bucketOf_iff hpos hk.le, ← not_le, ← le_bucketOf_iff k.val.succ_pos hk]
  omega

/-- Settles O49: the additions field by field, and the bucket by its bounds. -/
theorem countedCompletionAdds : Obligations.CountedCompletionAdds := by
  intro x a measured b
  have hmeasured : x.status.measured = true ↔ measured := x.status.measured_iff
  have hslow : (a.addSlow x).s = if measured ∧ x.slow < x.latency then min 65535 (a.s + 1) else a.s := by
    simp only [Accum.addSlow_eq, hmeasured]
  have hdrive : ∀ d, x.status = .drive d → (a.addReallocations x).r = min 65535 (a.r + x.delta) := fun d hd => by
    rw [Accum.addReallocations_eq, if_pos (x.status.ofDrive_iff.mpr ⟨d, hd⟩)]
  have hother : (∀ d, x.status ≠ .drive d) → (a.addReallocations x).r = a.r := fun hd => by
    rw [Accum.addReallocations_eq, if_neg fun h => (x.status.ofDrive_iff.mp h).elim hd]
  have hkept : ¬ measured → (a.addLatency x).hist = a.hist := fun hm => by
    rw [Accum.addLatency_eq, if_neg (mt hmeasured.mp hm)]
  have hadded : measured → (a.addLatency x).hist = histAdd b a.hist := fun hm => by
    rw [Accum.addLatency_eq, if_pos (hmeasured.mpr hm)]
  rw [Accum.count_eq]
  refine ⟨congrArg Accum.v (a.addCoverage_eq x), congrArg Accum.u (a.addUncorrectable_eq x),
    congrArg Accum.c (a.addCorrected_eq x), congrArg Accum.f (a.addFault_eq x), hdrive, hother, hslow, rfl, hkept,
    fun hm k => ?_, bucketOf_eq_zero_iff _, bucketOf_eq_seven_iff _, fun k => (bucketOf_eq_iff · · _)⟩
  rw [hadded hm, histAdd_get]

end Sys2Proof.Machine

namespace Sys2Proof.Machine

/-! ## O50: the grade computation (R111 to R116) -/

/-! ### The three ways it ends -/

/-- A recorded pair stands (R111). -/
theorem computeGrade_of_recorded (l : LimitSet) (a : Accum) (d : Fin 9) (reason : Reason) (n : Nat) :
    computeGrade l a (some d) reason n = ⟨d, reason, none⟩ := rfl

/-- Too little coverage (R112). -/
theorem computeGrade_of_uncovered {l : LimitSet} {a : Accum} (h : a.v = 0 ∨ a.v < l.vmin) (reason : Reason) (n : Nat) :
    computeGrade l a none reason n = ⟨7, .coverage, none⟩ := if_pos h

/-- Enough coverage: the grade of the density (R113 to R116). -/
theorem computeGrade_of_covered {l : LimitSet} {a : Accum} (h0 : a.v ≠ 0) (hmin : l.vmin ≤ a.v)
    (reason : Reason) (n : Nat) :
    computeGrade l a none reason n = ⟨⟨gradeOf l a n, gradeOf_lt l a n⟩, .none, some (densityOf l a)⟩ :=
  if_neg (not_or.mpr ⟨h0, hmin.not_gt⟩)

/-! ### Stages 5 and 6 as sums -/

/-- One for each threshold below the density (R114). -/
theorem baseGrade_eq (l : LimitSet) (d : Nat) :
    baseGrade l d = (if l.t1 < d then 1 else 0) + (if l.t2 < d then 1 else 0) + (if l.t3 < d then 1 else 0) +
      (if l.t4 < d then 1 else 0) + (if l.t5 < d then 1 else 0) + (if l.t6 < d then 1 else 0) := by
  unfold baseGrade
  rw [← List.countP_eq_length_filter]
  simp only [List.countP_cons, List.countP_nil, decide_eq_true_eq, Nat.zero_add]
  ac_rfl

/-- What is dropped from the front adds nothing. -/
theorem sum_drop_ofFn {n : Nat} (f : Fin n → Nat) (b : Nat) :
    ((List.ofFn f).drop b).sum = ∑ k, if b ≤ k.val then f k else 0 := by
  induction n generalizing b with
  | zero => simp
  | succ n ih =>
    cases b with
    | zero => simp only [List.drop_zero, List.sum_ofFn, Nat.zero_le, if_true]
    | succ b => simp [List.ofFn_succ, Fin.sum_univ_succ, ih]

/-- The buckets from `b` on, each at its own place (R115). -/
theorem tailFrom_eq (b : Nat) (h : Vector Nat 8) :
    tailFrom b h = (List.finRange 8).foldl (fun n k => n + if b ≤ k.val then h[k] else 0) 0 := by
  have hlist : h.toList = List.ofFn fun k : Fin 8 => h[k] := by
    rw [← Vector.toList_ofFn]
    exact congrArg Vector.toList Vector.ofFn_getElem.symm
  calc tailFrom b h = (h.toList.drop b).sum := List.sum_eq_foldl.symm
    _ = ∑ k : Fin 8, if b ≤ k.val then h[k] else 0 := by rw [hlist, sum_drop_ofFn]
    _ = ((List.finRange 8).map fun k => if b ≤ k.val then h[k] else 0).sum := by
      rw [← List.sum_ofFn, List.ofFn_eq_map]
    _ = _ := by rw [List.sum_eq_foldl, List.foldl_map]

/-- Settles O50: the computation by its three ends, and stages 5 and 6 as sums. -/
theorem gradeIsComputed : Obligations.GradeIsComputed := by
  intro l a reason shortfall
  refine ⟨fun d => computeGrade_of_recorded l a d reason shortfall,
    fun h => computeGrade_of_uncovered h reason shortfall, fun h0 hmin => ?_⟩
  rw [computeGrade_of_covered h0 hmin]
  refine ⟨?grade, rfl, rfl⟩
  case grade =>
    change gradeOf l a shortfall = _
    rw [gradeOf, tailDemotion, baseGrade_eq, tailFrom_eq, tailFrom_eq]
    rfl

end Sys2Proof.Machine

namespace Sys2Proof.Machine

/-! ## What the queues are judged by (R128 to R130, R181) -/

/-- The spin-up queue and count and the wait queues, with the budget and the door that a grant looks at (R129). -/
structure Queues where
  spinQueue : List SlotId
  spinCount : Nat
  waits : ToteId → List SlotId
  budget : Nat
  doorOpen : Bool

/-- The queues of a part. -/
def Part.queues (p : Part) : Queues :=
  ⟨p.spinQueue, p.spinCount, fun t => (p.tote t).wait, p.tables.rack.budget, p.door.value⟩

/-- What the queues look at in a slot: its state and its tote. -/
abbrev Post := SlotState × Option ToteId

/-- The post of a record. -/
def Slot.post (q : Slot) : Post := (q.state, q.tote)

/-- The posts of a part's slots. -/
def Part.posts (p : Part) (k : SlotId) : Post := (p.slot k).post

/-- The queues with slot `i` put where a post says: at the tail of a queue, or in the count. -/
def Queues.add (i : SlotId) (x : Post) (Q : Queues) : Queues :=
  { Q with
    spinQueue := if x.1 = .powerWait then Q.spinQueue ++ [i] else Q.spinQueue
    spinCount := Q.spinCount + if x.1 = .spinup then 1 else 0
    waits := fun t => if x = (.toteWait, some t) then Q.waits t ++ [i] else Q.waits t }

/-- The queues with slot `i` taken from where a post says. -/
def Queues.remove (i : SlotId) (x : Post) (Q : Queues) : Queues :=
  { Q with
    spinQueue := if x.1 = .powerWait then Q.spinQueue.filter (· != i) else Q.spinQueue
    spinCount := Q.spinCount - if x.1 = .spinup then 1 else 0
    waits := fun t => if x = (.toteWait, some t) then (Q.waits t).filter (· != i) else Q.waits t }

/-- Is a slot in the state, whatever its tote, in no queue and in no count? -/
def SlotState.free : SlotState → Bool
  | .powerWait | .spinup | .toteWait => false
  | .empty | .seated | .ident | .running | .condemned | .draining | .spindown | .unloadReady => true

theorem Queues.add_of_free {st : SlotState} (h : st.free = true) (i : SlotId) (o : Option ToteId) (Q : Queues) :
    Q.add i (st, o) = Q := by
  cases st <;> simp [Queues.add, SlotState.free] at h ⊢

theorem Queues.remove_of_free {st : SlotState} (h : st.free = true) (i : SlotId) (o : Option ToteId) (Q : Queues) :
    Q.remove i (st, o) = Q := by
  cases st <;> simp [Queues.remove, SlotState.free] at h ⊢

/-- The queues hold the slots whose posts say so, once each, and the count is that of the posts in SPINUP. -/
structure Queues.Hold (Q : Queues) (post : SlotId → Post) : Prop where
  nodup : Q.spinQueue.Nodup
  waiting : ∀ k, k ∈ Q.spinQueue ↔ (post k).1 = .powerWait
  count : Q.spinCount = (allSlots.filter fun k => (post k).1 == .spinup).length
  nodups : ∀ t, (Q.waits t).Nodup
  places : ∀ t k, k ∈ Q.waits t ↔ post k = (.toteWait, some t)

theorem Part.queuesSound_iff (p : Part) : p.QueuesSound ↔ p.queues.Hold p.posts := by
  have hplaces : ∀ t k, p.posts k = (.toteWait, some t) ↔ (p.slot k).state = .toteWait ∧ (p.slot k).tote = some t :=
    fun _ _ => Prod.mk.injEq .. ▸ Iff.rfl
  refine ⟨fun ⟨hn, hw, hc, hns, hp⟩ => ⟨hn, hw, hc, hns, fun t k => (hp t k).trans (hplaces t k).symm⟩, fun h => ?_⟩
  exact ⟨h.nodup, h.waiting, h.count, h.nodups, fun t k => (h.places t k).trans (hplaces t k)⟩

/-- The posts with one slot's out of every queue. -/
def without (i : SlotId) (post : SlotId → Post) : SlotId → Post := Function.update post i (.empty, none)

theorem without_self (i : SlotId) (post : SlotId → Post) : without i post i = (.empty, none) :=
  Function.update_self ..

theorem without_of_ne {i k : SlotId} (h : k ≠ i) (post : SlotId → Post) : without i post k = post k :=
  Function.update_of_ne h ..

theorem without_congr {i : SlotId} {post post' : SlotId → Post} (h : ∀ k, k ≠ i → post' k = post k) :
    without i post' = without i post := by
  funext k
  by_cases hk : k = i
  · subst hk
    rw [without_self, without_self]
  · rw [without_of_ne hk, without_of_ne hk, h k hk]

theorem without_iff {P : Post → Prop} (hP : ¬ P (.empty, none)) (i : SlotId) (post : SlotId → Post) (k : SlotId) :
    P (without i post k) ↔ k ≠ i ∧ P (post k) := by
  by_cases hk : k = i
  · subst hk
    simp [without_self, hP]
  · simp [without_of_ne hk, hk]

/-- The slots posted in SPINUP. -/
def spinups (post : SlotId → Post) : Finset SlotId := Finset.univ.filter fun k => (post k).1 = .spinup

theorem card_spinups (post : SlotId → Post) :
    (spinups post).card = (allSlots.filter fun k => (post k).1 == .spinup).length := rfl

theorem mem_spinups {post : SlotId → Post} {k : SlotId} : k ∈ spinups post ↔ (post k).1 = .spinup := by simp [spinups]

theorem spinups_without (i : SlotId) (post : SlotId → Post) : spinups (without i post) = (spinups post).erase i := by
  ext k
  rw [Finset.mem_erase, mem_spinups, mem_spinups]
  by_cases hk : k = i
  · subst hk
    simp [without_self]
  · simp [without_of_ne hk, hk]

/-- The posts in SPINUP are those without a slot's own, and that one. -/
theorem card_spinups_without (i : SlotId) (post : SlotId → Post) :
    (spinups post).card = (spinups (without i post)).card + if (post i).1 = .spinup then 1 else 0 := by
  rw [spinups_without]
  split
  next h => exact (Finset.card_erase_add_one (mem_spinups.mpr h)).symm
  next h => rw [Finset.erase_eq_of_notMem (mt mem_spinups.mp h), Nat.add_zero]

/-- A queue of the slots that satisfy `P`, joined at its tail by one that is not in it yet. -/
theorem nodup_mem_join {l : List SlotId} {P : SlotId → Prop} {i : SlotId} (hn : l.Nodup)
    (hm : ∀ k, k ∈ l ↔ k ≠ i ∧ P k) {c : Prop} [Decidable c] (hc : c ↔ P i) :
    (if c then l ++ [i] else l).Nodup ∧ ∀ k, k ∈ (if c then l ++ [i] else l) ↔ P k := by
  have hi : i ∉ l := fun h => ((hm i).mp h).1 rfl
  by_cases h : c
  · rw [if_pos h, ← List.concat_eq_append]
    refine ⟨hn.concat hi, fun k => ?_⟩
    by_cases hk : k = i
    · subst hk; simp [hc.mp h]
    · simp [hm, hk]
  · rw [if_neg h]
    refine ⟨hn, fun k => (hm k).trans ⟨And.right, fun hp => ⟨?_, hp⟩⟩⟩
    rintro rfl
    exact h (hc.mpr hp)

/-- A queue of the slots that satisfy `P`, left by one of them. -/
theorem nodup_mem_leave {l : List SlotId} {P : SlotId → Prop} {i : SlotId} (hn : l.Nodup) (hm : ∀ k, k ∈ l ↔ P k)
    {c : Prop} [Decidable c] (hc : c ↔ P i) :
    (if c then l.filter (· != i) else l).Nodup ∧ ∀ k, k ∈ (if c then l.filter (· != i) else l) ↔ k ≠ i ∧ P k := by
  by_cases h : c
  · rw [if_pos h]
    exact ⟨hn.filter _, fun k => by simp [hm, and_comm]⟩
  · rw [if_neg h]
    refine ⟨hn, fun k => (hm k).trans ⟨fun hp => ⟨?_, hp⟩, And.right⟩⟩
    rintro rfl
    exact h (hc.mpr hp)

namespace Queues.Hold

variable {Q : Queues} {post : SlotId → Post} {i : SlotId}

/-- A slot in no queue goes where its post says. -/
theorem add (h : Q.Hold (without i post)) : (Q.add i (post i)).Hold post := by
  obtain ⟨hn, hw⟩ := nodup_mem_join (P := fun k => (post k).1 = .powerWait) h.nodup
    (fun k => (h.waiting k).trans (without_iff (P := fun x => x.1 = .powerWait) nofun i post k)) Iff.rfl
  have hwaits := fun t => nodup_mem_join (P := fun k => post k = (.toteWait, some t)) (h.nodups t)
    (fun k => (h.places t k).trans (without_iff (P := (· = (.toteWait, some t))) nofun i post k)) Iff.rfl
  refine ⟨hn, hw, ?_, fun t => (hwaits t).1, fun t => (hwaits t).2⟩
  rw [← card_spinups, card_spinups_without i, card_spinups, ← h.count]
  rfl

/-- A slot leaves from where its post says. -/
theorem remove (h : Q.Hold post) : (Q.remove i (post i)).Hold (without i post) := by
  obtain ⟨hn, hw⟩ := nodup_mem_leave (i := i) h.nodup h.waiting Iff.rfl
  have hwaits := fun t => nodup_mem_leave (i := i) (h.nodups t) (h.places t) Iff.rfl
  refine ⟨hn, fun k => (hw k).trans (without_iff (P := fun x => x.1 = .powerWait) nofun i post k).symm, ?_,
    fun t => (hwaits t).1,
    fun t k => ((hwaits t).2 k).trans (without_iff (P := (· = (.toteWait, some t))) nofun i post k).symm⟩
  have hc := h.count
  rw [← card_spinups, card_spinups_without i] at hc
  rw [← card_spinups]
  exact Nat.sub_eq_of_eq_add hc

end Queues.Hold

/-! ### A slot out of the queues -/

/-- The queues are sound for every slot but slot `i`, which is in none and not counted, whatever its state. -/
def Part.SoundBut (i : SlotId) (p : Part) : Prop := p.queues.Hold (without i p.posts)

/-- The queues and the posts are as they were. -/
structure Part.Steady (p t : Part) : Prop where
  queues : t.queues = p.queues
  posts : t.posts = p.posts

/-- The queues are as they were, and the posts but slot `i`'s. -/
structure Part.SteadyBut (i : SlotId) (p t : Part) : Prop where
  queues : t.queues = p.queues
  posts : ∀ k, k ≠ i → t.posts k = p.posts k

section
variable {p t : Part} {i : SlotId}

theorem Part.QueuesSound.steady (h : p.QueuesSound) (ht : p.Steady t) : t.QueuesSound := by
  rw [Part.queuesSound_iff] at h ⊢
  rwa [ht.queues, ht.posts]

theorem Part.SoundBut.steadyBut (h : p.SoundBut i) (ht : p.SteadyBut i t) : t.SoundBut i := by
  unfold Part.SoundBut at h ⊢
  rwa [ht.queues, without_congr ht.posts]

/-- Slot `i` goes where its post says. -/
theorem Part.SoundBut.add (h : p.SoundBut i) (hq : t.queues = p.queues.add i (t.posts i))
    (hp : ∀ k, k ≠ i → t.posts k = p.posts k) : t.QueuesSound := by
  rw [Part.queuesSound_iff, hq]
  exact Queues.Hold.add (without_congr hp ▸ h)

/-- Slot `i` leaves from where its post says. -/
theorem Part.QueuesSound.remove (h : p.QueuesSound) (hq : t.queues = p.queues.remove i (p.posts i))
    (hp : ∀ k, k ≠ i → t.posts k = p.posts k) : t.SoundBut i := by
  unfold Part.SoundBut
  rw [hq, without_congr hp]
  exact ((Part.queuesSound_iff p).mp h).remove

theorem Part.SoundBut.of_free (h : p.SoundBut i) (hf : (p.slot i).state.free = true) : p.QueuesSound :=
  h.add (Queues.add_of_free hf i _ _).symm fun _ _ => rfl

theorem Part.QueuesSound.but_of_free (h : p.QueuesSound) (hf : (p.slot i).state.free = true) : p.SoundBut i :=
  h.remove (Queues.remove_of_free hf i _ _).symm fun _ _ => rfl

end
end Sys2Proof.Machine

namespace Sys2Proof.Machine

/-! ## What leaves the queues and the posts alone -/

theorem Part.queues_congr {p t : Part} (hs : t.spinQueue = p.spinQueue) (hc : t.spinCount = p.spinCount)
    (hw : ∀ u, (t.tote u).wait = (p.tote u).wait) (hq : t.quiet = p.quiet) : t.queues = p.queues := by
  unfold Part.queues
  rw [hs, hc, funext hw, Part.tables_of_quiet hq, Part.door_of_quiet hq]

theorem Part.queues_of_ledger {p t : Part} (hl : t.ledger = p.ledger) (hq : t.quiet = p.quiet) :
    t.queues = p.queues :=
  Part.queues_congr (Part.spinQueue_of_ledger hl) (Part.spinCount_of_ledger hl)
    (fun u => by unfold Part.tote; rw [Part.totes_of_ledger hl]) hq

theorem Slot.Like.post {q q' : Slot} (h : q.Like q') : q'.post = q.post := by
  obtain ⟨b, rfl⟩ := h
  rfl

/-- No grant waits by the queues alone (R129). -/
theorem Part.NoGrantWaits.of_queues {p t : Part} (h : p.NoGrantWaits) (hq : t.queues = p.queues) : t.NoGrantWaits := by
  obtain h | h | h := h
  · exact .inl ((congrArg Queues.spinQueue hq).trans h)
  · refine .inr (.inl ?_)
    rwa [show t.tables.rack.budget = p.tables.rack.budget from congrArg Queues.budget hq,
      show t.spinCount = p.spinCount from congrArg Queues.spinCount hq]
  · exact .inr (.inr ((congrArg Queues.doorOpen hq).trans h))

namespace Part.Steady

variable {p q t : Part} {i : SlotId}

theorem refl (p : Part) : p.Steady p := ⟨rfl, rfl⟩

theorem trans (h : p.Steady q) (h' : q.Steady t) : p.Steady t := ⟨h'.queues.trans h.queues, h'.posts.trans h.posts⟩

theorem state (h : p.Steady t) (k : SlotId) : (t.slot k).state = (p.slot k).state :=
  congrArg Prod.fst (congrFun h.posts k)

theorem but (h : p.Steady t) (i : SlotId) : p.SteadyBut i t := ⟨h.queues, fun k _ => congrFun h.posts k⟩

/-- All that the queues look at is as it was. -/
theorem of_frame (hq : t.queues = p.queues) (hs : t.slots = p.slots) : p.Steady t :=
  ⟨hq, funext fun k => by simp [Part.posts, Part.slot, hs]⟩

/-- But for what an offer latches, the slots are as they were. -/
theorem of_like (hl : t.ledger = p.ledger) (hq : t.quiet = p.quiet) (h : ∀ k, (p.slot k).Like (t.slot k)) :
    p.Steady t := ⟨Part.queues_of_ledger hl hq, funext fun k => (h k).post⟩

theorem modSlot (h : p.Steady q) (i : SlotId) {f : Slot → Slot} (hf : (f (q.slot i)).post = (q.slot i).post) :
    p.Steady (q.modSlot i f) := by
  refine h.trans ⟨rfl, funext fun k => ?_⟩
  unfold Part.posts
  rw [Part.modSlot_slot]
  split
  next hk => rw [hf, hk]
  next => rfl

theorem modTrunk (h : p.Steady q) (f : TrunkPort → TrunkPort) : p.Steady (q.modTrunk f) := h.trans (of_frame rfl rfl)

theorem raise (h : p.Steady q) (b : NoticeBody) : p.Steady (q.raise b) :=
  h.trans (of_frame (Part.queues_of_ledger (by simp) (by simp)) (by simp))

theorem drawn (h : p.Steady q) (f : Nat → NoticeBody) : p.Steady (q.drawn f) := (h.raise _).trans (of_frame rfl rfl)

theorem modTote (h : p.Steady q) (u : ToteId) {f : Tote → Tote} (hf : (f (q.tote u)).wait = (q.tote u).wait) :
    p.Steady (q.modTote u f) := by
  refine h.trans (of_frame (Part.queues_congr rfl rfl (fun v => ?_) rfl) rfl)
  rw [Part.modTote_tote]
  split
  next hv => rw [hf, hv]
  next => rfl

theorem takeOffer (h : p.Steady q) (z : ZoneId) : p.Steady (q.takeOffer z) :=
  h.trans (of_like (by simp) (by simp) (Part.takeOffer_like z q))

theorem judgeZone (h : p.Steady q) (z : ZoneId) : p.Steady (q.judgeZone z) :=
  h.trans (of_like (by simp) (by simp) (Part.judgeZone_like z q))

theorem latchAlarm (h : p.Steady q) (z : ZoneId) : p.Steady (q.latchAlarm z) :=
  h.trans (of_like (by simp) (by simp) (Part.latchAlarm_like z q))

theorem modZone (h : p.Steady q) (z : ZoneId) (f : Zone → Zone) : p.Steady (q.modZone z f) :=
  h.trans (of_frame rfl rfl)

theorem when (h : p.Steady q) (c : Bool) {f : Part → Part} (hf : p.Steady (f q)) : p.Steady (q.when c f) := by
  cases c
  · exact h
  · exact hf

/-! ### The lane -/

theorem pushCompletion (h : p.Steady q) (c : Completion) : p.Steady (q.pushCompletion c) := h.modTrunk _

theorem completeOpen (h : p.Steady q) (i : SlotId) (st : Status) : p.Steady (q.completeOpen i st) := by
  unfold Part.completeOpen
  exact modSlot (Part.each_inv (P := p.Steady) (fun _ _ hr => hr.pushCompletion _) _ _ h) i rfl

/-- A change of the slot's record that the queues do not look at. -/
theorem of_modSlot {i : SlotId} {f : Slot → Slot} (hf : (f (p.slot i)).post = (p.slot i).post)
    (hs : ∀ k, t.slot k = (p.modSlot i f).slot k) (hl : t.ledger = p.ledger) (hq : t.quiet = p.quiet) : p.Steady t := by
  refine ⟨Part.queues_of_ledger hl hq, .trans (funext fun k => ?_) ((refl p).modSlot i hf).posts⟩
  exact congrArg Slot.post (hs k)

theorem cutCommand (h : p.Steady q) (i : SlotId) : p.Steady (q.cutCommand i) := by
  obtain ⟨tx, out, hs⟩ := q.cutCommand_slot i
  refine h.trans (of_modSlot ?_ hs (q.cutCommand_ledger i) (q.cutCommand_quiet i))
  rfl

theorem dropSend (h : p.Steady q) (i : SlotId) : p.Steady (q.dropSend i) := by
  obtain ⟨out, -, hs⟩ := q.dropSend_slot i
  refine h.trans (of_modSlot ?_ hs (q.dropSend_ledger i) (q.dropSend_moves i).quiet)
  rfl

theorem sendReset (h : p.Steady q) (i : SlotId) : p.Steady (q.sendReset i) := (h.cutCommand i).modSlot i rfl

theorem kick (h : p.Steady q) (i : SlotId) {f : Slot → Slot} (hf : (f (q.slot i)).post = (q.slot i).post) :
    p.Steady (q.modSlot i fun s => (f s).kick) := by
  refine h.modSlot i ?_
  rw [Slot.kick_eq]
  exact hf

theorem commandSent (h : p.Steady q) (i : SlotId) : p.Steady (q.commandSent i) := by
  unfold Part.commandSent
  split
  · exact h
  · exact h
  · exact h.kick i (f := fun s => { s with
      laneTx := .idle, laneOut := some (.whole _), outstanding := setEntry _ (·.issue q.now) s.outstanding }) rfl

theorem resetSent (h : p.Steady q) (i : SlotId) : p.Steady (q.resetSent i) := by
  unfold Part.resetSent
  split
  · exact h
  · exact h
  · exact h.kick i (f := fun s => { s with laneTx := .idle, laneOut := some (.whole resetLaneUnit) }) rfl

theorem serviceSilence (h : p.Steady q) (i : SlotId) : p.Steady (q.serviceSilence i) := by
  unfold Part.serviceSilence
  split
  · exact h.modSlot i rfl
  · exact h

theorem slotCommand (h : p.Steady q) (i : SlotId) (tag code : Byte) (body : List Byte) :
    p.Steady (q.slotCommand i tag code body) := by
  unfold Part.slotCommand
  split
  · exact (h.modTrunk _).modSlot i rfl
  · exact Part.Steady.kick (f := id) ((h.modSlot i rfl).serviceSilence i) i rfl

theorem laneReady (h : p.Steady q) (i : SlotId) : p.Steady (q.laneReady i) := by
  unfold Part.laneReady
  split
  · exact (h.kick i (f := Slot.openLane) rfl).raise _
  · exact h

theorem startRecovery (h : p.Steady q) (i : SlotId) (tag : Byte) : p.Steady (q.startRecovery i tag) :=
  (((h.completeOpen i _).sendReset i).modSlot i rfl).raise _

theorem hand (h : p.Steady q) (i : SlotId) (x : Handing) : p.Steady (q.hand i x).1 := by
  unfold Part.hand
  simp only
  split
  · split <;> exact h.modSlot i (f := fun s => { s with acc := _ }) rfl
  · exact h

theorem ejectPress (h : p.Steady q) (i : SlotId) : p.Steady (q.ejectPress i) := by
  unfold Part.ejectPress
  split
  · refine h.modSlot i ?_
    split <;> rfl
  · exact h

theorem ejectRelease (h : p.Steady q) (i : SlotId) : p.Steady (q.ejectRelease i) := by
  unfold Part.ejectRelease
  split
  · exact h.modSlot i rfl
  · exact h

theorem silenceFirst (h : p.Steady q) (i : SlotId) : p.Steady (q.silenceFirst i) := by
  unfold Part.silenceFirst
  split
  · exact (h.modSlot i rfl).raise _
  · exact h

theorem resetLaneIfPresent (h : p.Steady q) (i : SlotId) : p.Steady (q.resetLaneIfPresent i) := by
  unfold Part.resetLaneIfPresent
  split
  · exact h.sendReset i
  · exact h.cutCommand i

/-! ### Steps -/

theorem stepEnded (h : p.Steady q) (i : SlotId) (e : Ending) : p.Steady (q.stepEnded i e) := h.raise _

theorem stepEnter (h : p.Steady q) (i : SlotId) (k : Nat) : p.Steady (q.stepEnter i k) :=
  (h.modSlot i rfl).takeOffer _

theorem chain (h : p.Steady q) (i : SlotId) (n : Nat) : p.Steady (q.chain i n).1 := by
  induction n generalizing q with
  | zero => exact h
  | succ n ih =>
    unfold Part.chain
    split
    · split
      · exact h
      · exact ih ((h.stepEnded i _).stepEnter i _)
    · exact h

theorem record (h : p.Steady q) (i : SlotId) (d : Fin 9) (r : Reason) : p.Steady (q.modSlot i (·.record d r)) := by
  refine h.modSlot i ?_
  rw [Slot.record_eq]
  rfl

theorem gradeSlot (h : p.Steady q) (i : SlotId) : p.Steady (q.gradeSlot i) := by
  refine Part.Steady.raise (h.modSlot i ?_) _
  unfold Slot.recordGrade
  split <;> rfl

/-! ### Zones -/

theorem judgeFault (h : p.Steady q) (z : ZoneId) : p.Steady (q.judgeFault z) := by
  unfold Part.judgeFault
  simp only
  split
  · exact (h.modZone z _).raise _
  · split
    · exact (h.modZone z _).drawn _
    · exact h

theorem judgeAlarm (h : p.Steady q) (z : ZoneId) (x : Int) : p.Steady (q.judgeAlarm z x) := by
  unfold Part.judgeAlarm
  simp only
  split
  · exact ((h.modZone z _).latchAlarm z).drawn _
  · split
    · exact (h.modZone z _).drawn _
    · exact h

theorem regulateZone (h : p.Steady q) (z : ZoneId) : p.Steady (q.regulateZone z) := by
  unfold Part.regulateZone
  split
  · exact h.modZone z _
  · exact h.modZone z _
  · exact h.modZone z _
  · exact h
  · exact h

theorem sampleZone (h : p.Steady q) (z : ZoneId) (a : SensorAnswer) : p.Steady (q.sampleZone z a) := by
  have h1 := (h.modZone z (·.sampled (readSample a))).judgeFault z
  unfold Part.sampleZone
  simp only
  cases hx : readSample a with
  | ok x => rw [hx] at h1; exact ((h1.judgeAlarm z x).judgeZone z).regulateZone z
  | error e => rw [hx] at h1; exact (h1.judgeZone z).regulateZone z

end Part.Steady

/-- The tick leaves the queues and the posts alone; a debounce that is timed has not settled. -/
theorem Part.tick_steady (p : Part) : p.Steady p.tick := by
  refine ⟨?_, funext fun k => ?_⟩
  · rw [Part.tick_frame, Part.tick_door]
    rfl
  · unfold Part.posts
    rw [Part.tick_slot]
    rfl

/-! ### Changes of slot `i`'s own post -/

namespace Part.SteadyBut

variable {p q t : Part} {i : SlotId}

theorem trans (h : p.SteadyBut i q) (h' : q.SteadyBut i t) : p.SteadyBut i t :=
  ⟨h'.queues.trans h.queues, fun k hk => (h'.posts k hk).trans (h.posts k hk)⟩

theorem modSlot (h : p.SteadyBut i q) (f : Slot → Slot) : p.SteadyBut i (q.modSlot i f) :=
  h.trans ⟨rfl, fun k hk => by unfold Part.posts; rw [Part.modSlot_slot_ne (Ne.symm hk)]⟩

theorem changeState (h : p.SteadyBut i q) (st : SlotState) : p.SteadyBut i (q.changeState i st) := by
  refine h.trans ⟨Part.queues_of_ledger (by simp) (by simp), fun k hk => ?_⟩
  have hl := Part.changeState_like i st q k
  rw [Part.modSlot_slot_ne (Ne.symm hk)] at hl
  exact hl.post

theorem reserve (h : p.SteadyBut i q) (u : ToteId) : p.SteadyBut i (q.reserve u i) := by
  refine h.trans ⟨Part.queues_congr (by simp) (by simp) (fun v => ?_) (by simp), fun k hk => ?_⟩
  · rw [Part.reserve_tote]
    split
    next hv => rw [hv]; rfl
    next => rfl
  · have hl := Part.reserve_like u i q k
    rw [if_neg hk] at hl
    exact hl.post

end Part.SteadyBut

/-- A change of state leaves the slot's tote. -/
theorem Part.changeState_posts (i : SlotId) (st : SlotState) (p : Part) :
    (p.changeState i st).posts i = (st, (p.slot i).tote) := by
  have hl := Part.changeState_like i st p i
  rw [Part.modSlot_slot_self] at hl
  exact hl.post

theorem Part.reserve_state (u : ToteId) (i : SlotId) (p : Part) : ((p.reserve u i).slot i).state = .unloadReady := by
  rw [Part.reserve_eq, Part.changeState_state]

end Sys2Proof.Machine

namespace Sys2Proof.Machine

/-! ## Tidy parts

Both invariants in one walk through the operations: `S` is what the soundness of the queues is owed to, and `N` what it
is owed to that no grant waits. An operation that frees a place and grants it at its end owes nothing between
(`N := False`). -/

/-- Under `S` the queues are sound, and under `N` no grant waits. -/
structure Part.Tidy (S N : Prop) (p : Part) : Prop where
  sound : S → p.QueuesSound
  waits : N → p.NoGrantWaits

/-- Under `S` the queues are sound but for slot `i`, which is in none; and under `N` no grant waits. -/
structure Part.TidyBut (S N : Prop) (i : SlotId) (p : Part) : Prop where
  sound : S → p.SoundBut i
  waits : N → p.NoGrantWaits

section
variable {S N N' : Prop} {i : SlotId} {p q t : Part}

/-! ### A slot in no queue changes -/

theorem Part.Tidy.steady (h : p.Tidy S N) (ht : p.Steady t) : t.Tidy S N :=
  ⟨fun s => (h.sound s).steady ht, fun n => (h.waits n).of_queues ht.queues⟩

theorem Part.TidyBut.steadyBut (h : p.TidyBut S N i) (ht : p.SteadyBut i t) : t.TidyBut S N i :=
  ⟨fun s => (h.sound s).steadyBut ht, fun n => (h.waits n).of_queues ht.queues⟩

theorem Part.Tidy.owing (h : p.Tidy S N) : p.Tidy S False := ⟨h.sound, False.elim⟩

theorem Part.TidyBut.owing (h : p.TidyBut S N i) : p.TidyBut S False i := ⟨h.sound, False.elim⟩

/-- A slot that no queue looks at is out of them, and may change. -/
theorem Part.Tidy.but (h : p.Tidy S N) (hf : (p.slot i).state.free = true) : p.TidyBut S N i :=
  ⟨fun s => (h.sound s).but_of_free hf, h.waits⟩

/-- A slot that is out of the queues has come to a state that no queue looks at. -/
theorem Part.TidyBut.rest (h : p.TidyBut S N i) (hf : (p.slot i).state.free = true) : p.Tidy S N :=
  ⟨fun s => (h.sound s).of_free hf, h.waits⟩

theorem Part.TidyBut.modSlot (h : p.TidyBut S N i) (f : Slot → Slot) : (p.modSlot i f).TidyBut S N i :=
  h.steadyBut (((Part.Steady.refl p).but i).modSlot f)

theorem Part.TidyBut.changeState (h : p.TidyBut S N i) (st : SlotState) : (p.changeState i st).TidyBut S N i :=
  h.steadyBut (((Part.Steady.refl p).but i).changeState st)

theorem Part.TidyBut.raise (h : p.TidyBut S N i) (b : NoticeBody) : (p.raise b).TidyBut S N i :=
  h.steadyBut (((Part.Steady.refl p).raise b).but i)

theorem Part.Tidy.raise (h : p.Tidy S N) (b : NoticeBody) : (p.raise b).Tidy S N :=
  h.steady ((Part.Steady.refl p).raise b)

theorem Part.Tidy.modTrunk (h : p.Tidy S N) (f : TrunkPort → TrunkPort) : (p.modTrunk f).Tidy S N :=
  h.steady ((Part.Steady.refl p).modTrunk f)

/-- A change of state that no queue sees, with whatever else changes in the record. -/
theorem Part.Tidy.changeState (h : p.Tidy S N) (hf : (p.slot i).state.free = true) (f : Slot → Slot) {st : SlotState}
    (hst : st.free = true) : ((p.modSlot i f).changeState i st).Tidy S N :=
  (((h.but hf).modSlot f).changeState st).rest (by rwa [Part.changeState_state])

theorem Part.Tidy.when (h : p.Tidy S N) (c : Bool) {f : Part → Part} (hf : (f p).Tidy S N) : (p.when c f).Tidy S N := by
  cases c
  · exact h
  · exact hf

theorem Part.Tidy.each {α : Type} (h : p.Tidy S N) (l : List α) {f : α → Part → Part}
    (hf : ∀ a {r : Part}, r.Tidy S N → (f a r).Tidy S N) : (p.each l f).Tidy S N :=
  Part.each_inv (P := Part.Tidy S N) (fun a _ hr => hf a hr) l p h

theorem Part.Tidy.eachFree (h : p.Tidy S N) (l : List SlotId) {f : SlotId → Part → Part}
    (hf : ∀ i {r : Part}, r.Tidy S N → (f i r).Tidy S N) : (p.eachFree l f).Tidy S N :=
  Part.eachFree_inv (P := Part.Tidy S N) (fun a _ hr => hf a hr)
    (fun _ _ hr => hr.steady (Part.Steady.of_frame rfl rfl)) l p h

/-! ### Into the queues and out of them (R127, R128, R181) -/

/-- A slot in POWER_WAIT joins the spin-up queue: the grant it may be due is owed. -/
theorem Part.TidyBut.joinQueue (h : p.TidyBut S N i) (hs : (p.slot i).state = .powerWait) :
    (p.joinQueue i).Tidy S False := by
  refine ⟨fun s => (h.sound s).add ?_ fun _ _ => rfl, False.elim⟩
  simp [Part.posts, Slot.post, hs, Queues.add, Part.queues]

theorem Part.Tidy.leaveQueue (h : p.Tidy S N) (hs : (p.slot i).state = .powerWait) :
    (p.leaveQueue i).TidyBut S N i := by
  refine ⟨fun s => (h.sound s).remove ?_ fun _ _ => rfl, fun n => ?_⟩
  · simp [Part.posts, Slot.post, hs, Queues.remove, Part.queues]
  · exact (h.waits n).imp_left fun hq => by rw [Part.leaveQueue_spinQueue, hq, List.filter_nil]

/-- A slot in SPINUP frees its place in the budget: the grant is owed. -/
theorem Part.Tidy.leaveSpinup (h : p.Tidy S N) (hs : (p.slot i).state = .spinup) :
    (p.leaveSpinup .spinup).TidyBut S False i := by
  refine ⟨fun s => (h.sound s).remove ?_ fun _ _ => by simp [Part.posts], False.elim⟩
  simp [Part.posts, Slot.post, hs, Queues.remove, Part.queues, Part.leaveSpinup, Part.tote]

/-- The head of a queue with each slot in it once is in its tail no more. -/
theorem filter_ne_of_nodup {rest : List SlotId} (h : (i :: rest).Nodup) : (i :: rest).filter (· != i) = rest := by
  rw [List.filter_cons_of_neg (by simp), List.filter_eq_self]
  exact fun k hk => bne_iff_ne.mpr fun e => (List.nodup_cons.mp h).1 (e ▸ hk)

/-- One grant (R129): the head of the queue leaves it, and counts in SPINUP. -/
theorem Part.Tidy.grant (h : p.Tidy S N) {rest : List SlotId} (hq : p.spinQueue = i :: rest) :
    (p.grant i rest).Tidy S False := by
  refine ⟨fun s => ?_, False.elim⟩
  have hsound := h.sound s
  have hstate : (p.slot i).state = .powerWait := (hsound.2.1 i).mp (by simp [hq])
  have hlike := fun k => (p.grant_like i rest k).post
  have hrest : p.spinQueue.filter (· != i) = rest := by
    rw [hq]
    exact filter_ne_of_nodup (hq ▸ hsound.1)
  have hbut : ({ p with spinQueue := rest } : Part).SoundBut i := by
    refine hsound.remove ?_ fun _ _ => rfl
    simp [Part.posts, Slot.post, hstate, Queues.remove, Part.queues, hrest, Part.tote]
  refine hbut.add ?_ fun k hk => ?_
  · have hquiet := Part.grant_quiet i rest p
    have hself := hlike i
    rw [if_pos rfl] at hself
    rw [show (p.grant i rest).posts i = (.spinup, (p.slot i).tote) from hself]
    simp [Queues.add, Part.queues, Part.tables_of_quiet hquiet, Part.door_of_quiet hquiet, Part.tote]
  · have hne := hlike k
    rwa [if_neg hk] at hne

/-- An occasion for a grant pays what is owed. -/
theorem Part.Tidy.grants (h : p.Tidy S N') : p.grants.Tidy S N := by
  refine ⟨fun s => ?_, fun _ => p.grants_noGrantWaits⟩
  unfold Part.grants
  generalize p.spinQueue.length = k
  replace h := h.owing
  induction k generalizing p with
  | zero => exact h.sound s
  | succ k ih =>
    unfold Part.grantLoop
    split
    · exact h.sound s
    next i rest hq =>
      split
      · exact ih (h.grant hq)
      · exact h.sound s

/-! ### Places (R37, R179 to R182) -/

theorem Part.TidyBut.reserve (h : p.TidyBut S N i) (u : ToteId) : (p.reserve u i).Tidy S N :=
  (h.steadyBut (((Part.Steady.refl p).but i).reserve u)).rest (by rw [Part.reserve_state]; rfl)

/-- A slot in TOTE_WAIT joins the tail of its tote's wait queue (R181). -/
theorem Part.TidyBut.await (h : p.TidyBut S N i) {u : ToteId} (hs : p.posts i = (.toteWait, some u)) :
    (p.modTote u fun x => { x with wait := x.wait ++ [i] }).Tidy S N := by
  refine ⟨fun s => (h.sound s).add ?_ fun _ _ => rfl, fun n => (h.waits n).congr rfl rfl rfl rfl⟩
  rw [show (p.modTote u _).posts i = (.toteWait, some u) from hs]
  simp only [Queues.add, Part.queues, Queues.mk.injEq]
  refine ⟨by simp, by simp, funext fun v => ?_, rfl, rfl⟩
  by_cases hv : u = v
  · subst hv
    simp
  · simp [hv, Part.modTote_tote_ne hv]

theorem Part.TidyBut.requestPlace (h : p.TidyBut S N i) {u : ToteId} (hs : p.posts i = (.toteWait, some u)) :
    (p.requestPlace u i).Tidy S N := by
  unfold Part.requestPlace
  split
  · exact h.reserve u
  · exact h.await hs
  · exact h.await hs

theorem Part.TidyBut.enterToteWait (h : p.TidyBut S N i) : (p.enterToteWait i).Tidy S N := by
  rw [Part.enterToteWait_eq]
  have hc := (h.modSlot fun s => { s with
    tote := some (p.binOf (p.slot i)).tote
    binLamp := some ⟨(p.binOf (p.slot i)).colour, (p.binOf (p.slot i)).blink⟩ }).changeState .toteWait
  refine hc.requestPlace ?_
  rw [Part.changeState_posts, Part.modSlot_slot_self]

/-- The head of a wait queue leaves it for its place. -/
theorem Part.Tidy.serveNext (h : p.Tidy S N) {u : ToteId} {rest : List SlotId} (hw : (p.tote u).wait = i :: rest) :
    (p.serveNext u i rest).Tidy S N := by
  suffices hbut : (p.modTote u fun x => { x with wait := rest }).TidyBut S N i from hbut.reserve u
  refine ⟨fun s => ?_, fun n => (h.waits n).congr rfl rfl rfl rfl⟩
  have hold := (Part.queuesSound_iff p).mp (h.sound s)
  have hpost : p.posts i = (.toteWait, some u) := (hold.places u i).mp (by simp [Part.queues, hw])
  have hnodup : (i :: rest).Nodup := hw ▸ hold.nodups u
  refine (h.sound s).remove ?_ fun _ _ => rfl
  rw [hpost]
  simp only [Queues.remove, Part.queues, Queues.mk.injEq]
  refine ⟨by simp, by simp, funext fun v => ?_, rfl, rfl⟩
  by_cases hv : u = v
  · subst hv
    simp [hw, filter_ne_of_nodup hnodup]
  · simp [hv, Part.modTote_tote_ne hv]

end
end Sys2Proof.Machine

namespace Sys2Proof.Machine

/-! ## The way out of a test -/

section
variable {S N N' : Prop} {i : SlotId} {p q t : Part}

/-- A slot in POWER_WAIT joins the queue, and what can be granted is. -/
theorem Part.TidyBut.rejoin (h : p.TidyBut S N i) (f : Slot → Slot) :
    (((p.modSlot i f).changeState i .powerWait).joinQueue i).grants.Tidy S N :=
  (((h.modSlot f).changeState .powerWait).joinQueue (Part.changeState_state ..)).grants

theorem Part.TidyBut.spindownOver (h : p.TidyBut S N i) : (p.spindownOver i).Tidy S N := by
  cases hr : (p.slot i).retry with
  | true =>
    rw [Part.spindownOver_of_retry hr]
    exact h.rejoin _
  | false =>
    rw [Part.spindownOver_of_no_retry hr]
    exact (h.modSlot _).enterToteWait

theorem Part.TidyBut.enterSpindown (h : p.TidyBut S N i) : (p.enterSpindown i).Tidy S N := by
  have hwait : (p.startWait i).TidyBut S N i := (h.modSlot _).changeState .spindown
  rw [Part.enterSpindown_eq]
  split
  · exact hwait.spindownOver
  · refine hwait.rest ?_
    unfold Part.startWait
    rw [Part.changeState_state]
    rfl

theorem Part.TidyBut.enterDraining (h : p.TidyBut S N i) (e : Ending) : (p.enterDraining i e).TidyBut S N i :=
  ((h.raise _).modSlot _).changeState .draining

/-- A slot in no step enters RUNNING, and stays in it through the steps that end at their entry. -/
theorem Part.enterSteps_steady (i : SlotId) (p : Part) : (p.modSlot i (·.into .running)).Steady (p.enterSteps i).1 :=
  (((Part.Steady.refl _).stepEnter i 0).chain i _).raise _

theorem Part.enterSteps_state (i : SlotId) (p : Part) : ((p.enterSteps i).1.slot i).state = .running := by
  rw [(p.enterSteps_steady i).state, Part.modSlot_slot_self]
  rfl

theorem Part.TidyBut.enterSteps (h : p.TidyBut S N i) : (p.enterSteps i).1.TidyBut S N i :=
  (h.modSlot _).steadyBut ((p.enterSteps_steady i).but i)

theorem Part.TidyBut.leaveDraining (h : p.TidyBut S N i) : ((p.gradeSlot i).leaveDraining i).Tidy S N :=
  ((h.steadyBut (((Part.Steady.refl p).gradeSlot i).but i)).modSlot Slot.openLane).enterSpindown

/-- DRAINING ends in SPINDOWN or past it, or in a step of a retest (R30). -/
theorem Part.TidyBut.endDraining (h : p.TidyBut S N i) (n : Nat) : (p.endDraining i n).Tidy S N := by
  induction n generalizing p with
  | zero => unfold Part.endDraining; exact h.leaveDraining
  | succ n ih =>
    unfold Part.endDraining
    simp only
    split
    · exact h.leaveDraining
    next r _ =>
      have hr : ((p.gradeSlot i).enterRetest i r).1.TidyBut S N i :=
        ((h.steadyBut (((Part.Steady.refl p).gradeSlot i).but i)).modSlot _).enterSteps
      split
      · exact ih (hr.enterDraining _)
      · refine hr.rest ?_
        unfold Part.enterRetest
        rw [Part.enterSteps_state]
        rfl

theorem Part.Tidy.drainCheck (h : p.Tidy S N) : (p.drainCheck i).Tidy S N := by
  unfold Part.drainCheck
  split
  next hs => exact (h.but (by rw [hs.1]; rfl)).endDraining _
  · exact h

theorem Part.TidyBut.drain (h : p.TidyBut S N i) (e : Ending) : ((p.enterDraining i e).drainCheck i).Tidy S N := by
  refine ((h.enterDraining e).rest ?_).drainCheck
  unfold Part.enterDraining
  rw [Part.changeState_state]
  rfl

/-! ## Steps -/

theorem Part.Tidy.afterChain {c : Part × Bool} (h : c.1.Tidy S N) (hf : (c.1.slot i).state.free = true) :
    (Part.afterChain i c).Tidy S N := by
  unfold Part.afterChain
  split
  · exact (h.but hf).drain _
  · exact h

theorem Part.Tidy.settle (h : p.Tidy S N) (hf : (p.slot i).state.free = true) : (p.settle i).Tidy S N := by
  have hc := (Part.Steady.refl p).chain i (p.stepCount i + 1)
  exact Part.Tidy.afterChain (h.steady hc) (by rwa [hc.state])

theorem Part.Tidy.endStep (h : p.Tidy S N) (hf : (p.slot i).state.free = true) (e : Ending) :
    (p.endStep i e).Tidy S N := by
  unfold Part.endStep
  split
  · have hs := ((Part.Steady.refl p).stepEnded i e).stepEnter i ((p.slot i).stepIndex + 1)
    exact (h.steady hs).settle (by rwa [hs.state])
  · exact (h.but hf).drain e

theorem Part.Tidy.moveCondemned (h : p.Tidy S N) : (p.moveCondemned i).Tidy S N := by
  unfold Part.moveCondemned
  split
  next hrun =>
    have hf : (p.slot i).state.free = true := by rw [hrun]; rfl
    split
    · have hs := ((Part.Steady.refl p).stepEnded i .condemned).stepEnter i (p.stepCount i - 1)
      have hin := ((h.steady hs).but (by rwa [hs.state])).changeState .condemned
      refine (hin.rest ?_).settle ?_ <;> rw [Part.changeState_state] <;> rfl
    · exact (h.but hf).drain _
  · exact h

theorem Part.Tidy.condemn (h : p.Tidy S N) : (p.condemn i).Tidy S N :=
  Part.Tidy.moveCondemned (h.steady (((Part.Steady.refl p).record i _ _).raise _))

/-! ## No-shows and early ends -/

theorem Part.TidyBut.noShow (h : p.TidyBut S N i) : (p.noShow i).Tidy S N :=
  (((h.modSlot _).steadyBut (((Part.Steady.refl _).sendReset i).but i)).modSlot _).enterSpindown

theorem Slot.endEarly_post (c : Cause) (q : Slot) : (q.endEarly c).dress.post = q.post := by
  unfold Slot.endEarly
  rw [Slot.record_eq]
  rfl

theorem SlotState.free_of_powered {st : SlotState} (h : st.powered = true) (hs : st ≠ .spinup) : st.free = true := by
  revert h hs
  cases st <;> decide

/-- An early end takes a slot out of a powered state; a place that it frees is granted at the end (R31, R130). -/
theorem Part.Tidy.endEarly (h : p.Tidy S N) (hw : (p.slot i).state.powered = true) (c : Cause) :
    (p.endEarly i c).Tidy S N := by
  have hcore := (((((Part.Steady.refl p).completeOpen i c.status).modSlot i (f := fun s => { s with outstanding := [] })
    rfl).sendReset i).modSlot i (f := fun s => (s.endEarly c).dress) (Slot.endEarly_post c _))
  have hout := h.steady hcore
  unfold Part.endEarly
  by_cases hs : (p.slot i).state = .spinup
  · simp only [hs, beq_self_eq_true, Part.when_true]
    exact (hout.leaveSpinup ((hcore.state i).trans hs)).enterSpindown.grants
  · simp only [beq_false_of_ne hs, Part.when_false, Part.leaveSpinup, if_neg hs]
    refine (hout.but ?_).enterSpindown
    rw [hcore.state]
    exact SlotState.free_of_powered hw hs

theorem SlotState.powered_of_atWork {st : SlotState} (h : st.atWork = true) : st.powered = true := by
  revert h
  cases st <;> decide

theorem SlotState.free_of_atWork {st : SlotState} (h : st.atWork = true) : st.free = true := by
  revert h
  cases st <;> decide

theorem SlotState.free_of_stepping {st : SlotState} (h : st.stepping = true) : st.free = true := by
  revert h
  cases st <;> decide

theorem SlotState.powered_of_stepping {st : SlotState} (h : st.stepping = true) : st.powered = true := by
  revert h
  cases st <;> decide

theorem Part.Tidy.endIn (h : p.Tidy S N) {acts : SlotState → Bool} (hacts : ∀ st, acts st = true → st.powered = true)
    (c : Cause) : (p.endIn acts i c).Tidy S N := by
  unfold Part.endIn
  split
  next ha => exact h.endEarly (hacts _ ha) c
  · exact h

theorem Part.Tidy.abort (h : p.Tidy S N) (c : Cause) : (p.abort i c).Tidy S N := by
  unfold Part.abort
  split
  next hs => exact ((h.leaveQueue hs).modSlot _).enterToteWait
  · exact h.endIn (fun _ => id) c

/-! ## The loss of a drive -/

/-- A stray slot leaves its tote's wait queue (R184). -/
theorem Part.Tidy.stray (h : p.Tidy S N) (hs : (p.slot i).state = .toteWait) : (p.stray i).TidyBut S N i := by
  unfold Part.stray
  refine Part.TidyBut.raise ?_ _
  cases ht : (p.slot i).tote with
  | none =>
    refine ⟨fun s => (h.sound s).remove ?_ fun _ _ => rfl, h.waits⟩
    simp [Part.posts, Slot.post, hs, ht, Queues.remove]
  | some u =>
    refine ⟨fun s => (h.sound s).remove ?_ fun _ _ => rfl, fun n => (h.waits n).congr rfl rfl rfl rfl⟩
    rw [show p.posts i = (.toteWait, some u) by simp [Part.posts, Slot.post, hs, ht]]
    simp only [Queues.remove, Part.queues, Queues.mk.injEq]
    refine ⟨by simp, by simp, funext fun v => ?_, rfl, rfl⟩
    by_cases hv : u = v
    · subst hv
      simp
    · simp [hv, Part.modTote_tote_ne hv]

/-- A placement is in a manifest (R183). -/
theorem Part.place_steady (i : SlotId) (p : Part) : p.Steady (p.place i) := by
  unfold Part.place
  split
  · exact (Part.Steady.refl p).modTote _ rfl
  · exact .refl p

theorem SlotState.free_of_removes {st : SlotState} (h : st.removes = true) : st.free = true := by
  revert h
  cases st <;> decide

/-- What is done for the state that a slot leaves takes it out of its queue, or out of the count (R38). -/
theorem Part.Tidy.lossEffects (h : p.Tidy S N) : (p.lossEffects i).TidyBut S (N ∧ (p.slot i).state ≠ .spinup) i := by
  have hpull : ∀ {t : Part}, t.TidyBut S N i → (t.drivePulled i).TidyBut S (N ∧ (p.slot i).state ≠ .spinup) i :=
    fun ht => ⟨(ht.raise _).sound, fun n => (ht.raise _).waits n.1⟩
  have hsteady : (p.slot i).state.free = true → ∀ {t : Part}, p.Steady t →
      t.TidyBut S (N ∧ (p.slot i).state ≠ .spinup) i := fun hf t ht =>
    have hbut := (h.steady ht).but (i := i) (by rwa [ht.state])
    ⟨hbut.sound, fun n => hbut.waits n.1⟩
  cases hr : (p.slot i).state.removes with
  | true =>
    rw [Part.lossEffects_of_removes hr]
    exact hsteady (SlotState.free_of_removes hr) (((Part.Steady.refl p).completeOpen i _).raise _)
  | false =>
    unfold Part.lossEffects
    cases hs : (p.slot i).state <;> rw [hs] at hr hsteady hpull
    case empty => exact hsteady rfl (.refl p)
    case seated | spindown => exact hsteady rfl ((Part.Steady.refl p).raise _)
    case powerWait => exact hpull (h.leaveQueue hs)
    case spinup => exact ⟨((h.leaveSpinup hs).raise _).sound, fun n => absurd rfl n.2⟩
    case toteWait => exact ⟨(h.stray hs).sound, fun n => (h.stray hs).waits n.1⟩
    case unloadReady => exact hsteady rfl (p.place_steady i)
    all_goals cases hr

/-- A slot enters EMPTY, and leaves SPINUP with a place to grant (R38, R130). -/
theorem Part.Tidy.loseDrive (h : p.Tidy S N) : (p.loseDrive i).Tidy S N := by
  have hempty : (p.emptyOut i).Tidy S (N ∧ (p.slot i).state ≠ .spinup) := by
    refine (((h.lossEffects.steadyBut (((Part.Steady.refl _).dropSend i).but i)).modSlot _).changeState .empty).rest ?_
    rw [Part.changeState_state]
    rfl
  rw [Part.loseDrive_eq]
  by_cases hs : (p.slot i).state = .spinup
  · rw [beq_iff_eq.mpr hs, Part.when_true]
    exact hempty.grants
  · rw [beq_false_of_ne hs, Part.when_false]
    exact ⟨hempty.sound, fun n => hempty.waits ⟨n, hs⟩⟩

theorem Part.Tidy.modSlot (h : p.Tidy S N) {f : Slot → Slot} (hf : (f (p.slot i)).post = (p.slot i).post) :
    (p.modSlot i f).Tidy S N := h.steady ((Part.Steady.refl p).modSlot i hf)

theorem Part.Tidy.loss (h : p.Tidy S N) : (p.loss i).Tidy S N := by
  have h1 := h.modSlot (i := i) (f := fun s => { s with presence := s.presence.settle }) rfl
  unfold Part.loss
  split
  · simp only
    split
    · exact h1.steady ((Part.Steady.refl _).dropSend i)
    · exact h1.loseDrive
  · exact h

/-! ## Ticks, windows and seating -/

theorem Part.Tidy.forceStep (h : p.Tidy S N) (hf : (p.slot i).state.free = true) (st : StepEntry) :
    (p.forceStep i st).Tidy S N := by
  unfold Part.forceStep
  simp only
  generalize hq : Part.when _ _ _ = q
  have hs : p.Steady q := by
    subst hq
    exact (Part.Steady.refl p).when _ ((Part.Steady.refl p).modSlot i rfl)
  exact (h.steady (hs.raise _)).endStep (by rwa [(hs.raise _).state]) _

theorem Part.Tidy.advanceStep (h : p.Tidy S N) (hf : (p.slot i).state.free = true) (st : StepEntry) :
    (p.advanceStep i st).Tidy S N := by
  unfold Part.advanceStep
  split
  · exact h
  · exact h.endStep hf _

theorem Part.Tidy.stepTick (h : p.Tidy S N) (hf : (p.slot i).state.free = true) : (p.stepTick i).Tidy S N := by
  unfold Part.stepTick
  split
  · exact h
  · split
    · exact h.forceStep hf _
    · refine Part.Tidy.advanceStep (h.modSlot rfl) ?_ _
      rw [Part.modSlot_slot_self]
      exact hf

theorem Part.Tidy.slotSecond (h : p.Tidy S N) : (p.slotSecond i).Tidy S N := by
  unfold Part.slotSecond
  split
  · exact h
  · have h1 := h.modSlot (i := i) (f := Slot.countTest) rfl
    simp only
    cases hst : ((p.modSlot i Slot.countTest).slot i).state.stepping with
    | false => exact h1
    | true => exact h1.stepTick (SlotState.free_of_stepping hst)

theorem SlotState.free_of_seatable {i : SlotId} {p : Part} (h : p.seatable i = true) :
    (p.slot i).state.free = true := by
  unfold Part.seatable at h
  simp only [Bool.and_eq_true, beq_iff_eq] at h
  rw [h.1.1]
  rfl

theorem Part.Tidy.seat (h : p.Tidy S N) (hf : (p.slot i).state.free = true) : (p.seat i).Tidy S N :=
  (((h.raise _).but (by rwa [Part.raise_slot])).changeState .seated).rest (by rw [Part.changeState_state]; rfl)

theorem Part.Tidy.seatIfSeatable (h : p.Tidy S N) : (p.seatIfSeatable i).Tidy S N := by
  unfold Part.seatIfSeatable
  cases hs : p.seatable i with
  | false => exact h
  | true =>
    rw [Part.when_true]
    refine Part.TidyBut.rest (((h.but (SlotState.free_of_seatable hs)).modSlot (·.into .seated)).raise _) ?_
    unfold Part.seatQuietly
    rw [Part.raise_slot, Part.modSlot_slot_self]
    rfl

theorem Part.Tidy.arrival (h : p.Tidy S N) : (p.arrival i).Tidy S N := by
  unfold Part.arrival
  split
  · have h1 := h.modSlot (i := i) (f := fun s => { s with presence := s.presence.settle }) rfl
    simp only
    generalize p.modSlot i _ = q at h1
    cases hs : q.loader.phase == .ready && q.seatable i with
    | false => exact h1
    | true => exact h1.seat (SlotState.free_of_seatable (Bool.and_eq_true_iff.mp hs).2)
  · exact h

/-- A slot leaves SPINUP for IDENT, or past it for want of a probe; its place is granted (R25, R134). -/
theorem Part.Tidy.spinupOver (h : p.Tidy S N) : (p.spinupOver i).Tidy S N := by
  unfold Part.spinupOver
  split
  next hs =>
    have hident := ((h.leaveSpinup hs.1).modSlot fun s => { s with spinupTimer := none }).changeState .ident
    refine Part.Tidy.grants (N' := False) ?_
    unfold Part.enterIdent
    simp only
    split
    · exact hident.noShow
    next code _ =>
      refine (hident.modSlot _).rest ?_
      rw [Part.modSlot_slot_self, Slot.kick_eq]
      change ((Part.changeState i .ident _).slot i).state.free = true
      rw [Part.changeState_state]
      rfl
  · exact h

theorem Part.Tidy.noShowOver (h : p.Tidy S N) : (p.noShowOver i).Tidy S N := by
  unfold Part.noShowOver
  split
  next hs => exact (h.but (by rw [hs.1]; rfl)).noShow
  · exact h

theorem Part.Tidy.spindownExpiry (h : p.Tidy S N) : (p.spindownExpiry i).Tidy S N := by
  unfold Part.spindownExpiry
  split
  next hs => exact (h.but (by rw [hs.1]; rfl)).spindownOver
  · exact h

theorem Part.Tidy.startSlot (h : p.Tidy S N) (hs : (p.slot i).state = .seated) (r : Fin 16) :
    (p.startSlot i r).Tidy S N :=
  (h.but (by rw [hs]; rfl)).rejoin _

/-! ## Supervision and the lane -/

theorem Part.Tidy.currentFault (h : p.Tidy S N) : (p.currentFault i).Tidy S N := by
  unfold Part.currentFault
  split
  · exact h.endIn (fun _ => id) _
  · exact h

theorem Part.Tidy.silenceSecond (h : p.Tidy S N) : (p.silenceSecond i).Tidy S N := by
  unfold Part.silenceSecond
  split
  next hd =>
    refine (h.raise _).endEarly ?_ _
    rw [Part.raise_slot]
    unfold Part.silenceDue at hd
    simp only [Bool.and_eq_true] at hd
    exact SlotState.powered_of_stepping hd.1.1
  · exact h

theorem Part.Tidy.holdOver (h : p.Tidy S N) : (p.holdOver i).Tidy S N := by
  unfold Part.holdOver
  split
  · exact (h.modSlot rfl).abort _
  · exact h

theorem Part.Tidy.recoveryOver (h : p.Tidy S N) : (p.recoveryOver i).Tidy S N := by
  unfold Part.recoveryOver
  split
  · exact Part.Tidy.endIn ((h.modSlot rfl).raise _) (fun _ => SlotState.powered_of_atWork) _
  · exact h

/-- A slot in IDENT is identified, or has not shown (R26, R27). -/
theorem Part.Tidy.probeAnswer (h : p.Tidy S N) (hs : (p.slot i).state = .ident) (m : CompletionMsg) :
    (p.probeAnswer i m).Tidy S N := by
  have hbut := h.but (i := i) (by rw [hs]; rfl)
  unfold Part.probeAnswer
  split
  · exact hbut.noShow
  · split
    · have hrun : ∀ q : Part, ((q.enterSteps i).1.slot i).state.free = true := fun q => by
        rw [Part.enterSteps_state]
        rfl
      exact ((((hbut.modSlot _).raise _).enterSteps).rest (hrun _)).afterChain (hrun _)
    · exact hbut.noShow

theorem Part.Tidy.matched (h : p.Tidy S N) (e : Entry) (t0 : Time) (m : CompletionMsg) :
    (p.matched i e t0 m).Tidy S N := by
  have hhanded := (Part.Steady.refl p).hand i (e.handing (.drive m.status) m.delta m.coverage (elapsedMs t0 p.now))
  have hs := (hhanded.modSlot i (f := fun s => { s with outstanding := setEntry e.tag Entry.finish s.outstanding })
    rfl).pushCompletion (e.drivenCompletion i m (elapsedMs t0 p.now))
  exact (h.steady hs).when _ (h.steady hs).condemn

theorem Part.Tidy.laneCompletion (h : p.Tidy S N) (u : List Byte) : (p.laneCompletion i u).Tidy S N := by
  have horphan : (p.orphan i).Tidy S N := h.modSlot rfl
  unfold Part.laneCompletion Part.takeCompletion
  split
  · split
    · exact horphan
    · split
      · exact horphan
      · exact horphan
      · split
        · split
          next hs => exact h.probeAnswer hs _
          · exact horphan
        · exact h.matched _ _ _
  · exact h
  · exact h

/-- A slot at work with an entry left in its list is at work still once it is condemned (R28, R30). -/
theorem Part.condemn_atWork (hw : (p.slot i).state.atWork = true) (ho : (p.slot i).outstanding ≠ []) :
    ((p.condemn i).slot i).state.atWork = true := by
  unfold Part.condemn
  generalize hq : Part.raise _ _ = q
  have hslot : q.slot i = (p.slot i).record 7 .condemnedUncorrectable := by
    rw [← hq, Part.raise_slot, Part.modSlot_slot_self]
  have hstate : (q.slot i).state = (p.slot i).state := by rw [hslot, Slot.record_eq]
  have hout : (q.slot i).outstanding ≠ [] := by rwa [hslot, Slot.record_eq]
  have hholds : q.Holds i (q.slot i) q := .of_slot rfl rfl rfl rfl rfl
  by_cases hrun : (q.slot i).state = .running
  · by_cases hj : q.jumps i
    · obtain ⟨c, hc, he⟩ := hholds.moveCondemned_lands hrun hj
      rw [he]
      cases hl : q.landing i (q.stepCount i - 1) with
      | some j => rw [(hc.rests hl).1]; rfl
      | none =>
        have hd := (hc.drains hl).1
        rw [Part.modSlot_slot_self] at hd
        rw [(hd hout).1]
        rfl
    · rw [((hholds.moveCondemned_drains hrun hj).1 hout).1]
      rfl
  · rw [Part.moveCondemned_of_other hrun, hstate]
    exact hw

theorem Part.hand_outstanding (i : SlotId) (x : Handing) (p : Part) :
    ((p.hand i x).1.slot i).outstanding = (p.slot i).outstanding := by
  unfold Part.hand
  simp only
  split
  · split <;> rw [Part.modSlot_slot_self]
  · rfl

/-- A timed out entry stays in the list, so that the slot is at work still when its lane is given up (R82, R83). -/
theorem Part.Tidy.timedOut (h : p.Tidy S N) (hw : (p.slot i).state.atWork = true) {e : Entry}
    (he : e ∈ (p.slot i).outstanding) : (p.timedOut i e).Tidy S N := by
  unfold Part.timedOut
  simp only
  generalize hq : Part.pushCompletion _ _ = q
  have hslot : q.slot i = { p.slot i with outstanding := setEntry e.tag Entry.finish (p.slot i).outstanding } := by
    rw [← hq, Part.pushCompletion_slot, Part.modSlot_slot_self]
  have hs : p.Steady (q.hand i (e.handing .timeout 0 0 0)).1 := by
    subst hq
    exact (((Part.Steady.refl p).modSlot i rfl).pushCompletion _).hand i _
  have hout : ((q.hand i (e.handing .timeout 0 0 0)).1.slot i).outstanding ≠ [] := by
    rw [Part.hand_outstanding, hslot]
    exact mt List.map_eq_nil_iff.mp (List.ne_nil_of_mem he)
  have hwork : ((q.hand i (e.handing .timeout 0 0 0)).1.slot i).state.atWork = true := by rwa [hs.state]
  generalize q.hand i (e.handing .timeout 0 0 0) = c at hs hout hwork
  obtain ⟨h1, hw1⟩ : (c.1.when c.2 (Part.condemn i)).Tidy S N ∧
      ((c.1.when c.2 (Part.condemn i)).slot i).state.atWork = true := by
    cases c.2 with
    | false => exact ⟨h.steady hs, hwork⟩
    | true => exact ⟨(h.steady hs).condemn, Part.condemn_atWork hwork hout⟩
  split
  · refine (h1.raise _).endEarly ?_ _
    rw [Part.raise_slot]
    exact SlotState.powered_of_atWork hw1
  · exact h1.steady ((Part.Steady.refl _).startRecovery i _)

theorem Part.Tidy.commandTimeout (h : p.Tidy S N) (tag : Byte) : (p.commandTimeout i tag).Tidy S N := by
  unfold Part.commandTimeout
  split
  next hw =>
    split
    · exact h
    next e he => exact h.timedOut hw (List.mem_of_find?_eq_some he)
  · exact h

/-! ## Zones and the door -/

theorem Part.Tidy.tripZone (h : p.Tidy S N) (z : ZoneId) : (p.tripZone z).Tidy S N :=
  h.eachFree _ fun _ _ hr => hr.endIn (fun _ => SlotState.powered_of_atWork) _

theorem Part.Tidy.sampleEnd (h : p.Tidy S N) (z : ZoneId) (a : SensorAnswer) : (p.sampleEnd z a).Tidy S N := by
  have hs : p.Steady { p with busRead := nextRead z } := .of_frame rfl rfl
  have h1 := h.steady (hs.sampleZone z a)
  exact h1.when _ (h1.tripZone z)

theorem Part.Tidy.sensorSample (h : p.Tidy S N) (a : SensorAnswer) : (p.sensorSample a).Tidy S N := by
  unfold Part.sensorSample
  split
  · exact h
  · exact h.sampleEnd _ a

theorem Part.Tidy.sensorTimeout (h : p.Tidy S N) : p.sensorTimeout.Tidy S N := by
  unfold Part.sensorTimeout
  split
  · exact h
  · split
    · exact h.sampleEnd _ _
    · exact h

theorem Part.Tidy.alarmOver (h : p.Tidy S N) (z : ZoneId) : (p.alarmOver z).Tidy S N := by
  unfold Part.alarmOver
  split
  · exact (h.steady ((((Part.Steady.refl p).modZone z _).drawn _).judgeZone z)).tripZone z
  · exact h

/-- DOOR_CHANGED, and the zones judged: no queue moves (R172). -/
theorem Part.judgeZones_steady (b : NoticeBody) (p : Part) : p.Steady ((p.raise b).each allZones Part.judgeZone) :=
  Part.each_inv (P := p.Steady) (fun z _ hr => hr.judgeZone z) allZones _ ((Part.Steady.refl p).raise b)

/-- The part with the debounced door at the raw level (R171). -/
def Part.doorSettled (p : Part) : Part := { p with door := p.door.settle }

theorem Part.doorEvent_of_due (h : timerDue p.door.timer = true ∧ p.door.raw ≠ p.door.value) :
    p.doorEvent = ((p.doorSettled.raise (.doorChanged p.door.raw)).each allZones Part.judgeZone).when (!p.door.raw)
      Part.grants := by
  unfold Part.doorEvent
  rw [if_pos (by simp [h])]
  rfl

theorem Part.doorEvent_of_not_due (h : ¬ (timerDue p.door.timer = true ∧ p.door.raw ≠ p.door.value)) :
    p.doorEvent = p := by
  unfold Part.doorEvent
  rw [if_neg (by simpa using h)]

/-- An open door makes no grant; a closing one is an occasion for those it has held back (R129, R139). -/
theorem Part.Tidy.doorEvent (h : p.Tidy S N) : p.doorEvent.Tidy S N := by
  by_cases hd : timerDue p.door.timer = true ∧ p.door.raw ≠ p.door.value
  · have hsettled : p.doorSettled.Tidy S (p.door.raw = true) := ⟨h.sound, fun hopen => .inr (.inr hopen)⟩
    have hjudged := hsettled.steady (Part.judgeZones_steady (.doorChanged p.door.raw) _)
    rw [Part.doorEvent_of_due hd]
    generalize (p.doorSettled.raise (.doorChanged p.door.raw)).each allZones Part.judgeZone = q at hjudged
    cases hraw : p.door.raw with
    | false => exact hjudged.grants
    | true => exact ⟨hjudged.sound, fun _ => hjudged.waits hraw⟩
  · rw [Part.doorEvent_of_not_due hd]
    exact h

end
end Sys2Proof.Machine

namespace Sys2Proof.Machine

/-! ## Totes and tables (R8, R22, R132, R176, R185) -/

section
variable {S N N' : Prop} {i : SlotId} {p q t : Part}

theorem Part.Tidy.serve (h : p.Tidy S N) (u : ToteId) : (p.serve u).Tidy S N := by
  unfold Part.serve
  generalize (p.tote u).wait.length = k
  induction k generalizing p with
  | zero => exact h
  | succ k ih =>
    unfold Part.serveQueue
    split
    next i rest _ hw => exact ih (h.serveNext hw)
    · exact h

/-- A tote changed but for its wait queue. -/
theorem Part.Tidy.modTote (h : p.Tidy S N) (u : ToteId) {f : Tote → Tote} (hf : (f (p.tote u)).wait = (p.tote u).wait) :
    (p.modTote u f).Tidy S N := h.steady ((Part.Steady.refl p).modTote u hf)

theorem Part.Tidy.swap (h : p.Tidy S N) (u : ToteId) : (p.swap u).Tidy S N :=
  Part.Tidy.serve (h.modTote u rfl) u

theorem Part.Tidy.capacityChanged (h : p.Tidy S N) (u : ToteId) (cap : Nat) : (p.capacityChanged u cap).Tidy S N := by
  unfold Part.capacityChanged
  simp only
  split
  · exact h
  · split
    · exact (h.modTote u rfl).raise _
    · exact h
  · split
    · exact Part.Tidy.serve (h.modTote u rfl) u
    · exact h

/-- The tables may change but for the budget. -/
theorem Part.Tidy.modTables (h : p.Tidy S N) {f : TableStore → TableStore}
    (hf : (f p.tables).rack.budget = p.tables.rack.budget) : (p.modTables f).Tidy S N := by
  refine h.steady (Part.Steady.of_frame ?_ rfl)
  unfold Part.queues
  rw [Part.modTables_tables, hf]
  rfl

theorem Part.Tidy.enableChange (h : p.Tidy S N) (old : BitVec 24) : (p.enableChange old i).Tidy S N := by
  unfold Part.enableChange
  split
  next hc =>
    simp only [Bool.and_eq_true, beq_iff_eq] at hc
    refine (((h.but (by rw [hc.2]; rfl)).modSlot _).changeState .empty).rest ?_
    rw [Part.changeState_state]
    rfl
  · split
    next hc => exact h.seat (SlotState.free_of_seatable (Bool.and_eq_true_iff.mp hc).2)
    · exact h

/-- A budget that is not raised makes no grant possible; a raised one is an occasion (R132). -/
theorem Part.Tidy.storeRack (h : p.Tidy S N) (e : RackSettings) : (p.storeRack e).Tidy S N := by
  have heach : ∀ {M : Prop}, (p.modTables fun t => { t with rack := e }).Tidy S M →
      ((p.modTables fun t => { t with rack := e }).eachFree allSlots
        (Part.enableChange p.tables.rack.enables)).Tidy S M := fun hm => hm.eachFree _ fun _ _ hr => hr.enableChange _
  unfold Part.storeRack
  by_cases hb : p.tables.rack.budget < e.budget
  · simp only [hb, decide_true, Part.when_true]
    exact (heach (M := False) ⟨h.sound, False.elim⟩).grants
  · simp only [hb, decide_false, Part.when_false]
    exact heach ⟨h.sound, fun n => (h.waits n).imp_right (.imp_left (not_lt.mp hb).trans)⟩

theorem Part.Tidy.store (h : p.Tidy S N) (t : Table) (k : Nat) (c : List Byte) : (p.store t k c).1.Tidy S N := by
  have htables (f : TableStore → TableStore) (hf : ∀ x, (f x).rack = x.rack) : (p.modTables f).Tidy S N :=
    h.modTables (congrArg RackSettings.budget (hf _))
  cases t with
  | toteSettings =>
    refine Part.Tidy.capacityChanged (htables _ ?_) _ _
    exact fun _ => rfl
  | rackSettings => exact h.storeRack _
  | _ =>
    dsimp only [Part.store]
    exact htables _ fun _ => rfl

theorem Part.Tidy.load (h : p.Tidy S N) (body : List Byte) : (p.load body).part.Tidy S N := by
  obtain he | ⟨t, k, c, -, -, -, he⟩ := p.load_cases body
  · rwa [he]
  · rw [he]
    exact h.store t k c

/-! ## Loading and power-on -/

theorem Part.Tidy.withLoader (h : p.Tidy S N) (l : Loader) : ({ p with loader := l } : Part).Tidy S N :=
  h.steady (.of_frame rfl rfl)

theorem Part.Tidy.skipRecord (h : p.Tidy S N) : p.skipRecord.Tidy S N := h.steady (.of_frame rfl rfl)

theorem Part.Tidy.applyImage (h : p.Tidy S N) (img : List Byte) : (p.applyImage img).Tidy S N := by
  have htype : (p.applyTrunkType (field img 12 2)).Tidy S N := by
    unfold Part.applyTrunkType
    split
    · exact h
    · split
      · exact h.skipRecord
      · exact h.modTables rfl
  have hrecords := htype.each ((imageRecords img (field img 2 2)).getD []) (f := Part.applyRecord) fun body r hr => by
    unfold Part.applyRecord
    simp only
    split
    · exact (hr.load body).withLoader _
    · exact (hr.load body).skipRecord
  unfold Part.applyImage Part.applyStation
  split
  · exact hrecords
  · exact hrecords.modTrunk _

theorem Part.Tidy.loadEnd (h : p.Tidy S N) (acked : List Byte) : (p.loadEnd acked).Tidy S N := by
  unfold Part.loadEnd Part.endLoading
  split
  · have happlied := h.when (p.loader.verdict acked == .applied) (h.applyImage acked)
    simp only
    generalize Part.when _ _ _ = q at happlied
    exact (((happlied.withLoader _).eachFree _ fun _ _ hr => hr.seatIfSeatable).raise _).grants
  · exact h

theorem Part.Tidy.transferTimeout (h : p.Tidy S N) (x : EndedTransfer) : (p.transferTimeout x).Tidy S N := by
  unfold Part.transferTimeout
  split
  · exact h.withLoader _
  · exact h

/-- With every slot EMPTY, and every queue. -/
theorem Part.tidy_of_empty (hs : ∀ k, (p.slot k).state = .empty) (hq : p.spinQueue = []) (hc : p.spinCount = 0)
    (hw : ∀ u, (p.tote u).wait = []) : p.Tidy S N := by
  refine ⟨fun _ => ⟨?_, fun k => ?_, ?_, fun u => ?_, fun u k => ?_⟩, fun _ => .inl hq⟩
  · rw [hq]; exact List.nodup_nil
  · rw [hq, hs]; simp
  · have hnone : allSlots.filter (fun k => (p.slot k).state == .spinup) = [] :=
      List.filter_eq_nil_iff.mpr fun k _ => by rw [hs]; decide
    rw [hc, hnone]
    rfl
  · rw [hw]; exact List.nodup_nil
  · rw [hw, hs]; simp

theorem Part.tote_of_powerUp (h : p.totes = Vector.replicate 8 .powerUp) (u : ToteId) : (p.tote u).wait = [] := by
  unfold Part.tote
  rw [h, Fin.getElem_fin, Vector.getElem_replicate]
  rfl

theorem Part.powerOn_tidy (strap : BitVec 6) (presence eject : BitVec 24) (doorOpen : Bool) (p : Part) :
    (p.powerOn strap presence eject doorOpen).Tidy S N := by
  refine Part.tidy_of_empty (fun k => ?_) rfl rfl (Part.tote_of_powerUp rfl)
  simp [Part.slot, Part.powerOn, Part.powerUp, Slot.powerUp]

/-! ## The trunk -/

theorem Part.Tidy.receive (h : p.Tidy S N) (good : Bool) (dest source : Mac) (ty : BitVec 16) (data : List Byte) :
    (p.receive good dest source ty data).Tidy S N := by
  unfold Part.receive Part.message
  split
  · exact h.modTrunk _
  · split
    · split
      · exact h.modTrunk _
      · exact h.steady ((Part.Steady.refl p).slotCommand _ _ _ _)
      · exact h.modTrunk _
    · exact h

theorem Part.Tidy.choose (h : p.Tidy S N) : p.choose.Tidy S N := by
  unfold Part.choose Part.chooseWaiting
  split
  · split
    · exact h.modTrunk _
    · split
      · exact h
      · exact h.modTrunk _
      · exact h.modTrunk _
      · split
        · exact h.modTrunk _
        · exact h.modTrunk _
  · exact h

theorem Part.Tidy.completionSent (h : p.Tidy S N) : p.completionSent.Tidy S N := by
  unfold Part.completionSent
  split
  · exact h
  next c rest _ =>
    have hsent := h.modTrunk fun t => { t with completions := rest }
    exact hsent.when _ (Part.Tidy.drainCheck (hsent.modSlot rfl))

theorem Part.Tidy.reportLost (h : p.Tidy S N) : p.reportLost.Tidy S N := by
  unfold Part.reportLost
  split
  · exact h
  · exact (h.when _ (h.modTrunk _)).modTrunk _

theorem Part.Tidy.frameSent (h : p.Tidy S N) : p.frameSent.Tidy S N := by
  unfold Part.frameSent Part.itemSent
  split
  · exact h
  · split
    · exact h.steady (.of_frame rfl rfl)
    · exact (h.modTrunk _).completionSent
    · exact ((h.modTrunk _).modTrunk _).reportLost

/-! ## Requests -/

/-- The Management Unit's own part of a request moves no slot (R5, R6). -/
theorem Part.Tidy.take (h : p.Tidy S N) (mine : Request → Bool) {serve : Request → Part → Answer}
    (hs : ∀ r {t : Part}, t.Tidy S N → (serve r t).part.Tidy S N) : (p.take mine serve).Tidy S N := by
  unfold Part.take
  split
  next r rest _ _ =>
    split
    · have htaken : Part.Tidy S N
          { p.modTrunk fun t => { t with requests := rest, server := r.source } with serving := some r } :=
        h.steady (.of_frame rfl rfl)
      refine Part.Tidy.modTrunk ?_ _
      split
      · exact htaken
      · exact hs r htaken
    · exact h
  · exact h

theorem Part.Tidy.serveReadEntry (h : p.Tidy S N) (r : Request) : (serveReadEntry r p).part.Tidy S N := by
  unfold Machine.serveReadEntry
  split
  · exact h
  · split <;> exact h

theorem Part.Tidy.serveReadSlot (h : p.Tidy S N) (r : Request) : (serveReadSlot r p).part.Tidy S N := by
  dsimp only [Machine.serveReadSlot, Answer.ok]
  exact h.modSlot rfl

theorem Part.Tidy.serveReadZone (h : p.Tidy S N) (r : Request) : (serveReadZone r p).part.Tidy S N := by
  unfold Machine.serveReadZone
  split <;> exact h

/-- The counters of the slots are not looked at. -/
theorem Part.Tidy.serveReadCounters (h : p.Tidy S N) (r : Request) : (serveReadCounters r p).part.Tidy S N := by
  unfold Machine.serveReadCounters
  split
  · exact h
  · refine h.when _ (h.steady ⟨rfl, funext fun k => ?_⟩)
    unfold Part.posts Part.zeroCounters
    rw [Part.modAllSlots_slot]
    rfl

theorem Part.Tidy.serveStartSlot (h : p.Tidy S N) (r : Request) : (serveStartSlot r p).part.Tidy S N := by
  unfold Machine.serveStartSlot
  split
  · exact h
  next hr =>
    refine h.startSlot ?_ _
    unfold Part.startRefusal at hr
    split at hr
    · cases hr
    · split at hr
      · cases hr
      next hs => exact not_not.mp hs

theorem Part.Tidy.stepDoneEffect (h : p.Tidy S N) (hf : (p.slot i).state.free = true) :
    (p.stepDoneEffect i).Tidy S N := by
  have hs := (Part.Steady.refl p).serviceSilence i
  have h1 := h.steady hs
  have hf1 : ((p.serviceSilence i).slot i).state.free = true := by rwa [hs.state]
  have hd := hs.modSlot i (f := fun s => { s with stepDone := true }) rfl
  unfold Part.stepDoneEffect
  simp only
  split
  · exact h1
  · split
    · exact h1
    · exact h1.endStep hf1 _
    · split
      · exact (h.steady hd).endStep (by rwa [hd.state]) _
      · exact h.steady hd

theorem Part.Tidy.serveStepDone (h : p.Tidy S N) (r : Request) : (serveStepDone r p).part.Tidy S N := by
  unfold Machine.serveStepDone
  split
  · exact h
  next hr =>
    refine h.stepDoneEffect (SlotState.free_of_stepping ?_)
    unfold Part.stepDoneRefusal at hr
    simp only at hr
    split at hr
    · cases hr
    · split at hr
      · cases hr
      next hs => simpa using hs

theorem Part.Tidy.serveAbortSlot (h : p.Tidy S N) (r : Request) : (serveAbortSlot r p).part.Tidy S N := by
  unfold Machine.serveAbortSlot
  split
  · exact h
  · split
    · exact h
    · exact h.abort _

theorem Part.Tidy.serveService (h : p.Tidy S N) (r : Request) : (serveService r p).part.Tidy S N := by
  dsimp only [Machine.serveService, Answer.ok]
  exact h.each allSlots fun i q hq => hq.when _ (hq.steady ((Part.Steady.refl q).serviceSilence i))

theorem Part.Tidy.serveToteSwap (h : p.Tidy S N) (r : Request) : (serveToteSwap r p).part.Tidy S N := by
  unfold Machine.serveToteSwap
  split
  · exact h
  · split
    · exact h
    · exact h.swap _

theorem Part.Tidy.serveToteWithdraw (h : p.Tidy S N) (r : Request) : (serveToteWithdraw r p).part.Tidy S N := by
  unfold Machine.serveToteWithdraw
  split
  · exact h
  · split
    · exact h
    · split
      · exact h
      · exact h.modTote _ (f := fun q => { q with manifest := [], state := .absent }) rfl

/-! ## Resets -/

theorem Part.Tidy.trafficReset (h : p.Tidy S N) : p.trafficReset.Tidy S N := by
  have hslots := (h.modTrunk TrunkPort.reset).each allSlots (f := Part.trafficResetSlot) fun i q hq =>
    hq.steady ((((Part.Steady.refl q).modSlot i (f := fun s => { s with outstanding := [] }) rfl).resetLaneIfPresent
      i).modSlot i rfl)
  exact hslots.eachFree allSlots fun _ _ hq => hq.drainCheck

/-- The rack reset empties its slot, and changes no other's state (R45). -/
theorem Part.rackResetSlot_state (i k : SlotId) (p : Part) :
    ((p.rackResetSlot i).slot k).state = if k = i then .empty else (p.slot k).state := by
  unfold Part.rackResetSlot
  rw [((Part.Steady.refl _).resetLaneIfPresent i).state, Part.modSlot_slot]
  simp only [eq_comm (a := i)]
  split
  · rfl
  · rfl

/-- Done for every slot, it leaves each EMPTY. -/
theorem Part.rackResetSlots_state (p : Part) (k : SlotId) :
    ((p.each allSlots Part.rackResetSlot).slot k).state = .empty := by
  have hall : ∀ (l : List SlotId) (q : Part), k ∈ l ∨ (q.slot k).state = .empty →
      ((q.each l Part.rackResetSlot).slot k).state = .empty := by
    intro l
    induction l with
    | nil => exact fun q h => h.resolve_left List.not_mem_nil
    | cons i l ih =>
      intro q h
      refine ih _ ?_
      rw [Part.rackResetSlot_state]
      by_cases hk : k = i
      · exact .inr (if_pos hk)
      · rw [if_neg hk]
        exact h.imp_left fun hm => (List.mem_cons.mp hm).resolve_left hk
  exact hall _ _ (.inl (List.mem_finRange k))

/-- The queues are emptied with the slots. -/
theorem Part.rackResetShared_tidy (h : ∀ k, (p.slot k).state = .empty) : p.rackResetShared.Tidy S N :=
  Part.tidy_of_empty h rfl rfl (Part.tote_of_powerUp rfl)

theorem Part.rackReset_tidy (p : Part) : p.rackReset.Tidy S N := by
  have hempty := Part.rackResetShared_tidy (S := S) (N := N) (Part.rackResetSlots_state (p.modTrunk TrunkPort.reset))
  exact (hempty.eachFree allSlots fun _ _ hr => hr.seatIfSeatable).grants

end
end Sys2Proof.Machine

namespace Sys2Proof.Machine

/-! ## O57, O58: every command keeps the queues sound, and no grant waiting -/

section
variable {S N : Prop} {i : SlotId} {p : Part}

theorem Debounce.line_value (window : Nat) (level : Bool) (d : Debounce) : (d.line window level).value = d.value := by
  unfold Debounce.line
  split <;> rfl

/-- A grant looks at the door's debounced value, not at its line. -/
theorem Part.Tidy.doorLine (h : p.Tidy S N) (isOpen : Bool) : (p.doorLine isOpen).Tidy S N := by
  refine h.steady (.of_frame ?_ rfl)
  unfold Part.queues
  have hdoor : (p.doorLine isOpen).door.value = p.door.value := Debounce.line_value _ _ _
  rw [hdoor]
  rfl

theorem Part.Tidy.presenceLine (h : p.Tidy S N) (present : Bool) : (p.presenceLine i present).Tidy S N :=
  Part.Tidy.modSlot h rfl

theorem Part.Tidy.ejectLine (h : p.Tidy S N) (pressed : Bool) : (p.ejectLine i pressed).Tidy S N :=
  Part.Tidy.modSlot h rfl

theorem Part.Tidy.laneDropped (h : p.Tidy S N) (u : List Byte) : (p.laneDropped i u).Tidy S N :=
  h.when _ (Part.Tidy.modSlot h rfl)

theorem Part.Tidy.stepLimit (h : p.Tidy S N) : (p.stepLimit i).Tidy S N := h.when _ h.slotSecond

theorem Part.Tidy.serveResetTraffic (h : p.Tidy S N) (r : Request) : (serveResetTraffic r p).part.Tidy S N := by
  dsimp only [Machine.serveResetTraffic, Answer.ok]
  exact h.trafficReset

theorem Part.serveResetRack_tidy (r : Request) (p : Part) : (serveResetRack r p).part.Tidy S N := by
  dsimp only [Machine.serveResetRack, Answer.ok]
  exact p.rackReset_tidy

/-- Every command keeps the queues sound, and keeps every possible grant made. -/
theorem exec_tidy {c : Instr} {s s' : State} (h : s.part.Tidy S N) (he : exec c s = .next s') :
    s'.part.Tidy S N := by
  have hput := exec_put he
  have hsame := Part.Steady.refl s.part
  cases c <;> rw [State.onPart_put hput]
  case powerOn => exact Part.powerOn_tidy _ _ _ _ _
  case configTransferTimeout => exact h.transferTimeout _
  case configImageLoadEnd => exact h.loadEnd _
  case trunkFrameReceived => exact h.receive _ _ _ _ _
  case unknownRequestCode => exact h.take _ fun _ _ hq => hq
  case readPartId => exact h.take _ fun _ _ hq => hq
  case loadEntry => exact h.take _ fun r _ hq => hq.load r.body
  case readEntry => exact h.take _ fun r _ hq => hq.serveReadEntry r
  case readSlot => exact h.take _ fun r _ hq => hq.serveReadSlot r
  case readZone => exact h.take _ fun r _ hq => hq.serveReadZone r
  case readCounters => exact h.take _ fun r _ hq => hq.serveReadCounters r
  case startSlot => exact h.take _ fun r _ hq => hq.serveStartSlot r
  case stepDone => exact h.take _ fun r _ hq => hq.serveStepDone r
  case abortSlot => exact h.take _ fun r _ hq => hq.serveAbortSlot r
  case service => exact h.take _ fun r _ hq => hq.serveService r
  case toteSwap => exact h.take _ fun r _ hq => hq.serveToteSwap r
  case toteWithdraw => exact h.take _ fun r _ hq => hq.serveToteWithdraw r
  case resetTraffic => exact h.take _ fun r _ hq => hq.serveResetTraffic r
  case resetRack => exact h.take _ fun r q _ => q.serveResetRack_tidy r
  case transmitChoice => exact h.choose
  case frameSendEnd => exact h.frameSent
  case linkUp => exact h.modTrunk _
  case linkDown => exact h.modTrunk _
  case timeBaseTick => exact h.steady s.part.tick_steady
  case slotSecondTick => exact h.slotSecond
  case stepTimeLimitExpiry => exact h.stepLimit
  case presenceLineChange => exact h.presenceLine _
  case presenceArrival => exact h.arrival
  case presenceLoss => exact h.loss
  case spinupWindowExpiry => exact h.spinupOver
  case noShowWindowExpiry => exact h.noShowOver
  case spindownWaitExpiry => exact h.spindownExpiry
  case laneCommandSendEnd => exact h.steady (hsame.commandSent _)
  case resetLaneSendEnd => exact h.steady (hsame.resetSent _)
  case laneMessageDropped => exact h.laneDropped _
  case laneCompletion => exact h.laneCompletion _
  case laneReady => exact h.steady (hsame.laneReady _)
  case commandTimeout => exact h.commandTimeout _
  case laneRecoveryWindowExpiry => exact h.recoveryOver
  case currentFault => exact h.currentFault
  case silenceFirstExpiry => exact h.steady (hsame.silenceFirst _)
  case silenceSecondExpiry => exact h.silenceSecond
  case ejectLineChange => exact h.ejectLine _
  case ejectPressed => exact h.steady (hsame.ejectPress _)
  case ejectReleased => exact h.steady (hsame.ejectRelease _)
  case ejectHoldExpiry => exact h.holdOver
  case doorLineChange => exact h.doorLine _
  case doorChanged => exact h.doorEvent
  case sensorReadTimeout => exact h.sensorTimeout
  case sensorSample => exact h.sensorSample _
  case alarmTimerExpiry => exact h.alarmOver _

theorem step_tidy {s s' : State} (h : s.part.Tidy S N) (hs : step s = .next s') : s'.part.Tidy S N := by
  unfold step at hs
  split at hs
  · cases hs
    exact h
  next c rest _ => exact exec_tidy (s := { s with pending := rest }) h hs

end

/-- Settles O57: a step is its command's effect, and no command moves a slot but through the queues' own operations,
which take it from the queue of the state it leaves and put it in that of the state it enters. -/
theorem stepKeepsQueuesSound : Obligations.StepKeepsQueuesSound := fun _ _ h hs =>
  (step_tidy (S := True) (N := False) ⟨fun _ => h, False.elim⟩ hs).sound trivial

/-- Settles O58: a slot that joins the queue, a place given up, a budget raised and a door closed are each followed by
the grants; nothing else makes a grant possible. -/
theorem stepKeepsNoGrantWaits : Obligations.StepKeepsNoGrantWaits := fun _ _ h hs =>
  (step_tidy (S := False) (N := True) ⟨False.elim, fun _ => h⟩ hs).waits trivial

end Sys2Proof.Machine

namespace Sys2Proof.Machine

/-! ## O34: the door moves, and the zones are judged for it (R146, R147, R172) -/

/-- A zone judged for the door, and in the state it is judged to be in (R146, R147). -/
def Zone.rejudged (fanBase : Nat) (doorOpen : Bool) (z : Zone) : Zone :=
  if z.judged doorOpen = z.state then z else z.enter fanBase (z.judged doorOpen)

theorem Zone.rejudged_state (fanBase : Nat) (doorOpen : Bool) (z : Zone) :
    (z.rejudged fanBase doorOpen).state = z.judged doorOpen := by
  unfold Zone.rejudged
  split
  next h => exact h.symm
  · rfl

theorem Zone.rejudged_judged (fanBase : Nat) (doorOpen d : Bool) (z : Zone) :
    (z.rejudged fanBase doorOpen).judged d = z.judged d := by
  unfold Zone.rejudged
  split
  · rfl
  · exact Zone.enter_judged _ _ _ _

/-- No zone is to enter ALARM: those judged to be in it are in it. -/
def Part.AlarmsSeen (p : Part) : Prop := ∀ z, (p.zone z).judged p.door.value = .alarm → (p.zone z).state = .alarm

section
variable {p : Part}

/-- The door has no part in an alarm, so a change of the door alone brings no zone into ALARM. -/
theorem Part.ZonesJudged.alarmsSeen (h : p.ZonesJudged) {t : Part} (hz : t.zones = p.zones) : t.AlarmsSeen := by
  intro z ha
  have hzone : t.zone z = p.zone z := by unfold Part.zone; rw [hz]
  rw [hzone] at ha ⊢
  rw [h z]
  exact (Zone.judged_eq_alarm _ _).mpr ((Zone.judged_eq_alarm _ _).mp ha)

/-- Judging a zone that does not enter ALARM latches nothing (R42). -/
theorem Part.AlarmsSeen.judgeZone_eq (h : p.AlarmsSeen) (z : ZoneId) :
    p.judgeZone z = p.modZone z (Zone.rejudged p.tables.rack.fanBase p.door.value) := by
  unfold Part.judgeZone Part.modZone Zone.rejudged
  simp only
  split
  next hs => simp [Part.zone]
  next hs =>
    have hna : (p.zone z).judged p.door.value ≠ .alarm := fun ha => hs (ha.trans (h z ha).symm)
    rw [beq_false_of_ne hna, Part.when_false]

theorem Part.AlarmsSeen.judgeZone (h : p.AlarmsSeen) (z : ZoneId) : (p.judgeZone z).AlarmsSeen := by
  rw [h.judgeZone_eq]
  intro k
  by_cases hk : z = k
  · subst hk
    rw [Part.modZone_zone_self, Zone.rejudged_judged, Zone.rejudged_state]
    exact id
  · rw [Part.modZone_zone_ne hk]
    exact h k

/-- The zones of a list judged, each once: they are rejudged, and nothing else changes. -/
theorem Part.AlarmsSeen.each_judgeZone (h : p.AlarmsSeen) {l : List ZoneId} (hn : l.Nodup) :
    p.each l Part.judgeZone = { p with zones := (p.each l Part.judgeZone).zones } ∧
      ∀ z, (p.each l Part.judgeZone).zone z =
        if z ∈ l then (p.zone z).rejudged p.tables.rack.fanBase p.door.value else p.zone z := by
  induction l generalizing p with
  | nil => exact ⟨rfl, fun _ => rfl⟩
  | cons a l ih =>
    obtain ⟨ha, hl⟩ := List.nodup_cons.mp hn
    have hone := h.judgeZone_eq a
    obtain ⟨hrest, hzones⟩ := ih (h.judgeZone a) hl
    change (p.judgeZone a).each l Part.judgeZone = { p with zones := ((p.judgeZone a).each l Part.judgeZone).zones } ∧
      ∀ z, ((p.judgeZone a).each l Part.judgeZone).zone z = _
    generalize (p.judgeZone a).each l Part.judgeZone = t at hrest hzones
    rw [hone] at hrest hzones
    refine ⟨hrest, fun z => ?_⟩
    rw [hzones]
    by_cases hz : a = z
    · subst hz
      simp [ha]
    · rw [Part.modZone_zone_ne hz]
      simp [Ne.symm hz]

/-- Where no waiting slot is at work, grants move no zone and change nothing of the Trunk Port but its notices. -/
theorem Part.grants_around (hn : p.spinQueue.Nodup) (hw : ∀ j ∈ p.spinQueue, (p.slot j).state.atWork = false) :
    p.grants.zones = p.zones ∧ p.trunk.SameButNotices p.grants.trunk := by
  unfold Part.grants
  generalize p.spinQueue.length = k
  induction k generalizing p with
  | zero => exact ⟨rfl, .refl _⟩
  | succ k ih =>
    unfold Part.grantLoop
    split
    · exact ⟨rfl, .refl _⟩
    next i rest hq =>
      split
      · rw [hq] at hn hw
        obtain ⟨hi, hrest⟩ := List.nodup_cons.mp hn
        have hidle := hw i List.mem_cons_self
        obtain ⟨hzones, htrunk⟩ := ih (p := p.grant i rest) (by rwa [Part.grant_spinQueue]) fun j hj => by
          rw [Part.grant_spinQueue] at hj
          rw [Part.grant_slot_idle hidle, if_neg fun e : j = i => hi (e ▸ hj)]
          exact hw j (List.mem_cons_of_mem _ hj)
        have hgrant : p.trunk.SameButNotices (p.grant i rest).trunk := by
          unfold Part.grant
          refine TrunkPort.SameButNotices.trans (.refl _) (Part.changeState_sameButNotices ?_ rfl)
          rw [Part.modSlot_slot_self]
          exact hidle
        exact ⟨hzones.trans (Part.grant_zones_idle hidle rest), hgrant.trans htrunk⟩
      · exact ⟨rfl, .refl _⟩

/-- The zones judged for the door that has moved. -/
def Part.doorJudged (p : Part) : Part := (p.doorSettled.raise (.doorChanged p.door.raw)).each allZones Part.judgeZone

/-- Of judged zones, those that the door concerns change, and nothing but the notice and the door with them. -/
theorem Part.ZonesJudged.doorJudged (h : p.ZonesJudged) :
    p.doorJudged =
      { p.raise (.doorChanged p.door.raw) with door := ⟨p.door.raw, p.door.raw, none⟩, zones := p.doorJudged.zones } ∧
    ∀ z, p.doorJudged.zone z = (p.zone z).rejudged p.tables.rack.fanBase p.door.raw := by
  have hraise : p.doorSettled.raise (.doorChanged p.door.raw) =
      { p.raise (.doorChanged p.door.raw) with door := ⟨p.door.raw, p.door.raw, none⟩ } := by
    have hlevel : p.doorSettled.noticeLevel (.doorChanged p.door.raw) = p.noticeLevel (.doorChanged p.door.raw) := rfl
    unfold Part.raise
    rw [hlevel]
    split <;> rfl
  have hseen : (p.doorSettled.raise (.doorChanged p.door.raw)).AlarmsSeen := h.alarmsSeen (Part.raise_zones _ _)
  obtain ⟨hrest, hzones⟩ := hseen.each_judgeZone (List.nodup_finRange 6)
  refine ⟨?_, fun z => ?_⟩
  · have hrest' : p.doorJudged =
        { p.doorSettled.raise (.doorChanged p.door.raw) with zones := p.doorJudged.zones } := hrest
    rwa [hraise] at hrest'
  · refine (hzones z).trans ?_
    rw [if_pos (List.mem_finRange z), Part.raise_tables, Part.raise_door, Part.raise_zone]
    rfl

end

/-- What the door has to do with a zone's state (Table 8-3): nothing under a fault or an alarm; otherwise an open door
holds the zone, and a closed one leaves it to its request and temperature. -/
theorem Zone.judged_door (z : Zone) :
    (∃ st, (st = .sensorFault ∨ st = .alarm) ∧ ∀ d, z.judged d = st) ∨
      z.judged true = .held ∧
        z.judged false = if z.request.isSome ∧ z.temperature.isSome then .regulating else .idle := by
  unfold Zone.judged
  by_cases hf : z.sensorFault = true
  · exact .inl ⟨.sensorFault, .inl rfl, fun _ => if_pos hf⟩
  · by_cases ha : z.alarm = .stopped
    · exact .inr (by simp [hf, ha])
    · exact .inl ⟨.alarm, .inr rfl, fun _ => by rw [if_neg hf, if_pos ha]⟩

/-- The door has opened on a judged zone: REGULATING and IDLE are HELD (R146, R147). -/
theorem Zone.rejudged_opened {z : Zone} (h : z.state = z.judged false) (base : Nat) :
    z.rejudged base true =
      if z.state = .regulating ∨ z.state = .idle then
        { z with
          state := .held
          duty := 0
          fan := base
          integral := if z.state = .regulating then 0 else z.integral
          rampAcc := if z.state = .regulating then 0 else z.rampAcc
          target := if z.state = .regulating then none else z.target }
      else z := by
  unfold Zone.rejudged
  obtain ⟨st, hst, hall⟩ | ⟨hopened, hclosed⟩ := z.judged_door
  · rw [hall] at h
    rw [hall, if_pos h.symm, h, if_neg (by rintro (rfl | rfl) <;> simp at hst)]
  · rw [hclosed] at h
    have hstate : z.state = .regulating ∨ z.state = .idle := by rw [h]; split <;> simp
    rw [hopened, if_pos hstate, if_neg (by intro hheld; simp [← hheld] at hstate)]
    simp [Zone.enter, fanOf]

/-- The door has closed on a judged zone: HELD is REGULATING, from the zone's temperature, or IDLE (R146, R147). -/
theorem Zone.rejudged_closed {z : Zone} (h : z.state = z.judged true) (base : Nat) :
    z.rejudged base false =
      if z.state = .held then
        if z.request.isSome ∧ z.temperature.isSome then
          { z with state := .regulating, target := z.temperature, rampAcc := 0, integral := 0 }
        else { z with state := .idle, duty := 0, fan := base }
      else z := by
  unfold Zone.rejudged
  obtain ⟨st, hst, hall⟩ | ⟨hopened, hclosed⟩ := z.judged_door
  · rw [hall] at h
    rw [hall, if_pos h.symm, h, if_neg (by rintro rfl; simp at hst)]
  · rw [hopened] at h
    rw [hclosed, h, if_pos rfl]
    split <;> simp [Zone.enter, fanOf, h]

theorem Part.doorEvent_eq_judged {p : Part} (h : timerDue p.door.timer = true ∧ p.door.raw ≠ p.door.value) :
    p.doorEvent = p.doorJudged.when (!p.door.raw) Part.grants := Part.doorEvent_of_due h

/-- What grants leave once the zones have been judged for a closed door: the zones as they are, and of sound queues the
first slots granted (R129, R130, R139). -/
theorem Part.QueuesSound.grants_of_judged {p t : Part} (h : p.QueuesSound) {b : NoticeBody} {d : Debounce}
    (ht : t = { p.raise b with door := d, zones := t.zones }) :
    Grants { p with door := t.grants.door } p.spinQueue p.spinCount p.slot t.grants ∧
      t.grants.tables = p.tables ∧ t.grants.totes = p.totes ∧ p.trunk.SameButNotices t.grants.trunk ∧
      t.grants.zones = t.zones := by
  have hqueue : t.spinQueue = p.spinQueue := by rw [ht]; exact Part.raise_spinQueue b p
  have hcount : t.spinCount = p.spinCount := by rw [ht]; exact Part.raise_spinCount b p
  have hslot : t.slot = p.slot := by rw [ht]; exact funext (Part.raise_slot b p)
  have htables : t.tables = p.tables := by rw [ht]; exact Part.raise_tables b p
  have htotes : t.totes = p.totes := by rw [ht]; exact Part.raise_totes b p
  have htrunk : p.trunk.SameButNotices t.trunk := by rw [ht]; exact Part.raise_sameButNotices b p
  clear ht
  obtain ⟨hn, hw⟩ := h.spin
  rw [← hqueue] at hn hw
  rw [← hslot] at hw
  obtain ⟨hzones, hnotices⟩ := Part.grants_around hn hw
  have hquiet := t.grants_quiet
  have hdoor : t.grants.door = t.door := Part.door_of_quiet hquiet
  refine ⟨?_, (Part.tables_of_quiet hquiet).trans htables, t.grants_totes.trans htotes, htrunk.trans hnotices, hzones⟩
  have hgrants := (Part.grants_grants hn hw).congr (p' := { p with door := t.grants.door }) htables.symm hdoor rfl
  rwa [hqueue, hcount, hslot] at hgrants

/-- Settles O34: the zones are judged for the new door, each once and with no alarm among them, and where the door
closes the grants follow, which move no zone. -/
theorem doorChangeJudgesZones : Obligations.DoorChangeJudgesZones := by
  intro s
  generalize hp : s.part = p
  have hexec : exec .doorChanged s = .next (s.put p.doorEvent) := by rw [← hp]; rfl
  refine ⟨fun hnot => ?_, fun hdue hjudged hqueue => ⟨p.doorEvent, hexec, ?_⟩⟩
  · rw [hexec, Part.doorEvent_of_not_due hnot, ← hp]
    rfl
  obtain ⟨hrest, hzones⟩ := hjudged.doorJudged
  rw [Part.doorEvent_eq_judged hdue]
  generalize p.doorJudged = t at hrest hzones
  have hdoor : t.door = ⟨p.door.raw, p.door.raw, none⟩ := by rw [hrest]
  cases hraw : p.door.raw with
  | true =>
    have hvalue : p.door.value = false := by simpa [hraw] using hdue.2
    rw [hraw] at hrest hzones hdoor
    refine ⟨hdoor, fun _ => ?_, fun h => absurd h (by decide), fun z => ?_⟩
    · rw [Bool.not_true, Part.when_false, hdoor]
      exact hrest
    · refine (hzones z).trans ?_
      rw [Zone.rejudged_opened (by rw [hjudged z, hvalue])]
      simp
  | false =>
    have hvalue : p.door.value = true := by simpa [hraw] using hdue.2
    rw [hraw] at hrest hzones hdoor hqueue
    rw [Bool.not_false, Part.when_true]
    have hempty (h : p.spinQueue = []) : t.grants = t := by
      refine Part.grants_of_empty ?_
      rw [hrest]
      exact (Part.raise_spinQueue _ p).trans h
    have hkept : t.grants.zones = t.zones := by
      obtain h | h | h := hqueue
      · cases h
      · rw [hempty h]
      · obtain ⟨-, -, -, -, hz⟩ := h.grants_of_judged hrest
        exact hz
    have hdoor' : t.grants.door = ⟨false, false, none⟩ := (Part.door_of_quiet t.grants_quiet).trans hdoor
    refine ⟨hdoor', fun h => ?_, fun _ h => ?_, fun z => ?_⟩
    · rw [hempty (h.resolve_left (by decide)), hdoor]
      exact hrest
    · obtain ⟨hg, htab, htot, htr, -⟩ := h.grants_of_judged hrest
      exact ⟨hg, htab, htot, htr⟩
    · have hz : t.grants.zone z = t.zone z := by unfold Part.zone; rw [hkept]
      rw [hz, hzones, Zone.rejudged_closed (by rw [hjudged z, hvalue])]
      simp

end Sys2Proof.Machine
